-- ==== Sys2Proof/Word.lean ====
section
/-! DEFINITION. The part's plain data words: bytes and samples. -/

namespace Sys2Proof

/-- One byte of a spine unit or of the management port. -/
abbrev Byte := BitVec 8

/-- One signed 16-bit sample of one channel (R1). -/
abbrev Sample := BitVec 16

end Sys2Proof
end

