-- ==== Sys2Proof/Syntax.lean ====
section
/-! DEFINITION. The commands the block takes: one constructor for each row of spec/opcode_table.json, with what the
outside supplies at that event as operands. -/

namespace Sys2Proof

/-- A management command that has argument bytes (R172, R186). -/
inductive ArgCommand where
  | loadConfig
  | setAlertMask
  | readSegment
  | readGap
  | readPeer
  | rearmMarkers
deriving DecidableEq, Repr

/-- The commands (the rows of spec/opcode_table.json). -/
inductive Instr where
  /-- POWER_ON (R169): the first start after supply; `straps` is the level of ADDR3 to ADDR0. -/
  | powerOn (straps : BitVec 4)
  /-- RESET_ASSERT (R138): RESET# is asserted. -/
  | resetAssert
  /-- RESET_RELEASE (R169): RESET# is released; `straps` is the level of ADDR3 to ADDR0. -/
  | resetRelease (straps : BitVec 4)
  /-- IDENTIFY (R173): its command byte is received. -/
  | identify
  /-- LOAD_CONFIG (R159): its sixteenth argument byte is received; `straps` is the level of the straps then. -/
  | loadConfig (record : Vector Byte 16) (straps : BitVec 4)
  /-- READ_STATUS (R173): its command byte is received. -/
  | readStatus
  /-- READ_FAULTS (R178): its command byte is received. -/
  | readFaults
  /-- SET_ALERT_MASK (R180): its argument byte is received. -/
  | setAlertMask (mask : Byte)
  /-- READ_COUNTERS (R174): its command byte is received. -/
  | readCounters
  /-- READ_SEGMENT (R86): its argument byte is received. -/
  | readSegment (position : Byte)
  /-- READ_GAP (R51): its argument byte is received. -/
  | readGap (position : Byte)
  /-- READ_PEER (R156): its argument byte is received. -/
  | readPeer (address : Byte)
  /-- REARM_MARKERS (R61): its argument byte is received. -/
  | rearmMarkers (mask : Byte)
  /-- STOP_RUN (R164): its command byte is received. -/
  | stopRun
  /-- SOFT_RESET (R168): its command byte is received. -/
  | softReset
  /-- UNKNOWN_COMMAND (R171): a command byte that names no command is received. -/
  | unknownCommand (code : Byte)
  /-- SCS_RISE (R171): the rise of SCS#. -/
  | scsRise
  /-- SAMPLE_SET_TAKEN (R6): one sample on each of LANE0 to LANE7 is presented. -/
  | sampleSetTaken (lanes : Vector Sample 8)
  /-- LANE_ALIGNMENT_CHANGE (R2): the alignment status of a lane becomes OUT OF ALIGNMENT (`out`) or ALIGNED. -/
  | laneAlignmentChange (lane : Fin 8) (out : Bool)
  /-- START_EDGE (R161): an edge on the START line. -/
  | startEdge
  /-- STOP_EDGE (R164): an edge on the STOP line. -/
  | stopEdge
  /-- MARKER_EDGE (R56): an edge of the line's configured polarity is seen. -/
  | markerEdge (line : Fin 4)
  /-- MARKER_INACTIVE_LEVEL (R57, R60): the line is seen at its inactive level. -/
  | markerInactiveLevel (line : Fin 4)
  /-- MARKER_ACTIVE_IN_RECOVERY (R60): the active level is seen before the inactive hold ends. -/
  | markerActiveInRecovery (line : Fin 4)
  /-- MARKER_QUALIFY (R57): the qualification duration expires with the active level held, at time `now` (ns). -/
  | markerQualify (line : Fin 4) (now : Nat)
  /-- MARKER_RECOVERY_END (R60): the inactive hold of the line expires. -/
  | markerRecoveryEnd (line : Fin 4)
  /-- MARKER_WINDOW_LEAVE (R62): an acceptance time leaves the marker window, at time `now` (ns). -/
  | markerWindowLeave (now : Nat)
  /-- BOUNDARY_APPLY (R73): the Segment Table considers the head request. -/
  | boundaryApply
  /-- BLOCK_WRITE_COMPLETE (R23): the block write in progress completes. -/
  | blockWriteComplete
  /-- BLOCK_READ_COMPLETE (R24): the block read in progress completes, having met in its slot `corrected` more
  correctable errors, and one or more uncorrectable ones if `uncorrectable`, than the slot was known to hold. -/
  | blockReadComplete (corrected : Nat) (uncorrectable : Bool)
  /-- REFRESH_COMPLETE (R30): the refresh in progress completes. -/
  | refreshComplete
  /-- REFRESH_EXPIRY (R29): the refresh interval timer expires. -/
  | refreshExpiry
  /-- THERMAL_READING (R32): the die temperature sensor is read, in whole degrees Celsius. -/
  | thermalReading (celsius : Int)
  /-- TRAILER_PLACE (R95): a TRAILER that is due is placed. -/
  | trailerPlace
  /-- GAP_FRAME_PLACE (R97): a GAP frame that is due is placed. -/
  | gapFramePlace
  /-- DATA_FRAME_START (R103): a DATA frame that is due is started. -/
  | dataFrameStart
  /-- MEMORY_GAP_PLACE (R112): the pending MEMORY gap frame is placed. -/
  | memoryGapPlace
  /-- FLUSH_AGE_EXPIRY (R91): the flush-age timer expires. -/
  | flushAgeExpiry
  /-- UNIT_HEADER_ARRIVAL (R130): the sixtieth byte of a unit is received; `sent` bytes of the unit being forwarded,
  if there is one, have left the output by now. -/
  | unitHeaderArrival (header : Vector Byte 60) (sent : Nat)
  /-- UNIT_END (R133): the end mark of a unit is received; `rest` is every byte received after its sixtieth. -/
  | unitEnd (rest : List Byte)
  /-- FORWARDING_END (R132): the last byte of the forwarded unit is sent; `arrived` is every byte received by now after
  the sixtieth of the unit arriving on the input, if there is one. -/
  | forwardingEnd (arrived : List Byte)
  /-- NOTE_INSERTION_END (R126): the last byte of an own note is sent; `arrived` as for FORWARDING_END. -/
  | noteInsertionEnd (arrived : List Byte)
  /-- FRAME_INSERTION_COMPLETE (R122): the last byte of an own frame is sent; `arrived` as for FORWARDING_END. -/
  | frameInsertionComplete (arrived : List Byte)
  /-- PACE_TICK (R140): the 1 ms tick. -/
  | paceTick
  /-- PEER_STALE_EXPIRY (R148): the peer entry at an address has reached age 8. -/
  | peerStaleExpiry (address : BitVec 4)
  /-- PEER_ABSENT_EXPIRY (R148): the peer entry at an address has reached age 64. -/
  | peerAbsentExpiry (address : BitVec 4)
  /-- INGEST_AGE_OUT (R150): the ingest record has reached age 8. -/
  | ingestAgeOut
  /-- RING_OPEN (R143): the return counter has reached 8. -/
  | ringOpen
  /-- FLUSH_COMPLETE (R166): the six flush facts hold together. -/
  | flushComplete
  /-- SCS_FALL (R170): the fall of SCS#. -/
  | scsFall
  /-- COMMAND_BYTE_RECEIVED (R170): the command byte of a command that has argument bytes is received. -/
  | commandByteReceived (command : ArgCommand)
  /-- LAST_REPLY_BYTE_CLOCKED_OUT (R170): every reply byte has been clocked out. -/
  | lastReplyByteClockedOut
deriving DecidableEq, Repr

end Sys2Proof
end

