-- ==== Sys2Proof/Decode.lean ====
section
/-! DEFINITION. The commands spelled by bits: the management commands by their bytes (R186), and the table's words.
spec/opcode_table.json gives no row any bits (98_reader.md counts no row with fixed bits and none with fields), so no word
spells a command (log 28). -/

namespace Sys2Proof

/-! ### The bytes of the management port (R186) -/

/-- The command that has argument bytes a byte names, if it names one. -/
def argCommandOf (code : Byte) : Option ArgCommand :=
  match code.toNat with
  | 0x02 => some .loadConfig
  | 0x05 => some .setAlertMask
  | 0x07 => some .readSegment
  | 0x08 => some .readGap
  | 0x09 => some .readPeer
  | 0x0A => some .rearmMarkers
  | _ => none

/-- How many argument bytes a command awaits. -/
def ArgCommand.argumentBytes : ArgCommand → Nat
  | .loadConfig => 16
  | .setAlertMask => 1
  | .readSegment => 1
  | .readGap => 1
  | .readPeer => 1
  | .rearmMarkers => 1

/-- What a byte received in COMMAND is: a command without arguments takes effect, one with arguments awaits them, and a
byte not in the table is UNKNOWN_COMMAND. -/
def commandOf (code : Byte) : Instr :=
  match code.toNat with
  | 0x01 => .identify
  | 0x03 => .readStatus
  | 0x04 => .readFaults
  | 0x06 => .readCounters
  | 0x0B => .stopRun
  | 0x0C => .softReset
  | _ =>
    match argCommandOf code with
    | some c => .commandByteReceived c
    | none => .unknownCommand code

/-- The record of 16 argument bytes. -/
def recordOf (bytes : List Byte) : Vector Byte 16 := Vector.ofFn fun place => (bytes[place.val]?).getD 0

/-- The command that takes effect at the last of its argument bytes; `straps` is the level of ADDR3 to ADDR0 then
(R118, R171). -/
def ArgCommand.taking (bytes : List Byte) (straps : BitVec 4) : ArgCommand → Instr
  | .loadConfig => .loadConfig (recordOf bytes) straps
  | .setAlertMask => .setAlertMask (bytes.headD 0)
  | .readSegment => .readSegment (bytes.headD 0)
  | .readGap => .readGap (bytes.headD 0)
  | .readPeer => .readPeer (bytes.headD 0)
  | .rearmMarkers => .rearmMarkers (bytes.headD 0)

/-! ### The opcode table's words -/

/-- The command a word spells by the table's bits: none, since the table gives no row any. -/
def decodeTableWord (_nbits _w : Nat) : Option Instr := none

end Sys2Proof
end

