-- ==== Sys2Proof/Config.lean ====
section
/-! DEFINITION. The sizes and limits the document fixes for the part (00 Key Parameters and the rules named).
The spec leaves no result of a modelled command undefined, so there is no free value here (log 27). -/

namespace Sys2Proof.Config

/-- Samples of one channel in a capture block (R8). -/
abbrev blockSamples : Nat := 512
/-- Places of the Staging Buffer (R22). -/
abbrev stagingPlaces : Nat := 32
/-- Entries of the Gap List (R39). -/
abbrev gapEntries : Nat := 32
/-- Places of the Boundary Queue (R68). -/
abbrev boundaryPlaces : Nat := 8
/-- Live segments at most (R79). -/
abbrev liveSegments : Nat := 63
/-- Acceptance times of the marker window at most (R62). -/
abbrev windowTimes : Nat := 4
/-- How long an acceptance time stays in the marker window, 1 ms in nanoseconds (R62). -/
abbrev windowNs : Nat := 1000000
/-- Note slots of the Emit Queue (R120). -/
abbrev noteSlots : Nat := 8
/-- Frame slots of the Emit Queue (R122). -/
abbrev frameSlots : Nat := 4
/-- Bytes of the transit buffer (R130). -/
abbrev transitBytes : Nat := 49152
/-- The insertion threshold in bytes (R127). -/
abbrev insertionThreshold : Nat := 32704
/-- The largest payload of a spine unit (R117). -/
abbrev maxPayload : Nat := 16384
/-- The header of a spine unit (R117). -/
abbrev headerBytes : Nat := 60
/-- The hop count at which a unit is an orphan (R136). -/
abbrev hopLimit : Nat := 15
/-- One above the last sample index (R4, R16). -/
abbrev indexLimit : Nat := 2 ^ 48
/-- Blocks of the ring times channels: the DRAM's bytes over 1024 (R19). -/
abbrev ringBlocks : Nat := 2 ^ 24
/-- The largest value of a 32-bit counter (R174). -/
abbrev counter32 : Nat := 4294967295
/-- The largest value of the gap sample total (R13, R174). -/
abbrev counter48 : Nat := 281474976710655
/-- The largest value of a segment's absorbed count, and of the hold counter (R70, R153). -/
abbrev counter16 : Nat := 65535
/-- Ticks without a return at which the ring is open (R143). -/
abbrev ringOpenTicks : Nat := 8
/-- Ticks after which a peer is STALE (R148). -/
abbrev staleTicks : Nat := 8
/-- Ticks after which an ingest record ages out (R150). -/
abbrev ingestTicks : Nat := 8
/-- Ticks after which a peer is ABSENT (R148). -/
abbrev absentTicks : Nat := 64
/-- The revision number IDENTIFY reports (R173). -/
abbrev revision : Nat := 1
/-- The refresh interval in NORMAL, in nanoseconds (R29). -/
abbrev refreshNormalNs : Nat := 3900
/-- The refresh interval in HOT and OVERTEMP, in nanoseconds (R29). -/
abbrev refreshHotNs : Nat := 1950

end Sys2Proof.Config
end

