-- ==== Sys2Proof/Machine/State.lean ====
section
/-! DEFINITION. The state of one SC-408 station: plain data, one record for each block of the part, and the queue of
waiting commands. Sample indices, counts and times are natural numbers; what the part sends or a host reads as bits is a
bit vector. The default value of each field is its value after power-on, RESET# (the rule is named at the block). -/

namespace Sys2Proof.Machine

/-- A reduction level, 0 to 4 (R102). -/
abbrev Level := Fin 5

/-! ### Intake Unit (R1 to R18) -/

/-- The three states of the Intake Unit (R4). -/
inductive IntakePhase where
  | idle
  | taking
  | ended
deriving DecidableEq, Repr

/-- The Intake Unit; the defaults are R18's. -/
structure Intake where
  phase : IntakePhase := .idle
  /-- The intake point: the index of the next sample set to be taken (R4). -/
  point : Nat := 0
  /-- The intake end, absent until the run ends (R4, R15). -/
  ending : Option Nat := none
  /-- The block being filled: for each enabled channel its samples so far (R6, R8). -/
  filling : List (List Sample) := []
  /-- The lane-fault mark of the block being filled (R3). -/
  laneMark : Bool := false
  /-- The INDEX_EXHAUSTED condition (R16). -/
  exhausted : Bool := false
  /-- A STOP taken at intake point 0 is held (R15). -/
  stopHeld : Bool := false
  /-- Bit c: LANEc reports OUT OF ALIGNMENT (a pin input, R1, R2; log 12). -/
  laneOut : BitVec 8 := 0
deriving DecidableEq, Repr

/-! ### Capture Memory Controller (R19 to R38) -/

/-- A completed capture block with its record (R8): block number, fill count, samples channel-major. -/
structure Block where
  number : Nat
  fill : Nat
  samples : List (List Sample)
deriving DecidableEq, Repr

/-- What a DRAM slot holds: a block, and the errors reads of it have met so far (R19, R34; log 9). -/
structure Slot where
  block : Block
  corrected : Nat := 0
  uncorrectable : Bool := false
deriving DecidableEq, Repr

/-- The three forms of a refresh (R30). -/
inductive RefreshForm where
  | forced
  | postponed
  | pullIn
deriving DecidableEq, Repr

/-- The operations of the DRAM port (R27). -/
inductive PortOp where
  | write
  | read
  | refresh (form : RefreshForm)
deriving DecidableEq, Repr

/-- An operation in progress; `stale` when it is left over from a SOFT RESET (R36). -/
structure PortUse where
  op : PortOp
  stale : Bool := false
deriving DecidableEq, Repr

/-- The thermal modes (R32). -/
inductive ThermalMode where
  | normal
  | hot
  | overtemp
deriving DecidableEq, Repr

/-- The Capture Memory Controller; the defaults are R37's. -/
structure CaptureMemory where
  /-- The DRAM: (slot, contents), slots strictly rising (R19; log 13). -/
  dram : List (Nat × Slot) := []
  writeSlot : Nat := 0
  drainSlot : Nat := 0
  storedCount : Nat := 0
  /-- The Staging Buffer, oldest block first (R22). -/
  staging : List Block := []
  /-- The port operation in progress (R27). -/
  op : Option PortUse := none
  /-- The block number of the outstanding read request (R24). -/
  readRequest : Option Nat := none
  /-- The refresh debt (R29). -/
  owed : Int := 0
  /-- The interval the refresh timer is timing, in ns; absent while it is stopped (R29, R31). -/
  refreshTimer : Option Nat := none
  thermal : ThermalMode := .normal
  selfRefresh : Bool := true
deriving DecidableEq, Repr

/-! ### Gap List (R39 to R51) -/

/-- Why a block was dropped (R10, R39). -/
inductive DropCause where
  | lane
  | thermal
  | ringFull
  | portBusy
deriving DecidableEq, Repr

/-- The held part of a Gap List entry (R39). -/
structure HeldPart where
  first : Nat
  count : Nat
deriving DecidableEq, Repr

/-- A Gap List entry (R39). -/
structure GapEntry where
  first : Nat
  count : Nat
  cause : DropCause
  /-- The entry's state: OPEN, or CLOSED when false. -/
  isOpen : Bool
  heldFlag : Bool := false
  heldPart : Option HeldPart := none
deriving DecidableEq, Repr

/-- The Gap List; the defaults are R51's. -/
structure GapList where
  /-- Oldest entry first (R40). -/
  entries : List GapEntry := []
  /-- A held overrun is in force, which is the GAP_HELD condition (R43, R49). -/
  overrun : Bool := false
  /-- The GAP_ACTIVE condition (R49). -/
  active : Bool := false
deriving DecidableEq, Repr

/-! ### Marker Unit (R52 to R67) -/

/-- Something kept once for each of the marker lines MK0 to MK3 (R52). -/
structure PerLine (α : Type) where
  mk0 : α
  mk1 : α
  mk2 : α
  mk3 : α
deriving DecidableEq, Repr

/-- The five states of a marker line (R54). -/
inductive LinePhase where
  | off
  | armed
  | qualifying
  | latched
  | recovering
deriving DecidableEq, Repr

/-- One marker line. -/
structure MarkerLine where
  phase : LinePhase := .off
  latch : Bool := false
  /-- The noted index while QUALIFYING (R56). -/
  noted : Option Nat := none
  /-- The duration being timed while QUALIFYING or RECOVERING, in ns (R57, R60). -/
  timing : Option Nat := none
deriving DecidableEq, Repr

/-- The Marker Unit; the defaults are R67's. -/
structure MarkerUnit where
  lines : PerLine MarkerLine := ⟨{}, {}, {}, {}⟩
  /-- The marker window: acceptance times in ns, oldest first (R62). -/
  window : List Nat := []
  nextSeq : BitVec 16 := 1
  lastSeq : BitVec 16 := 0
deriving DecidableEq, Repr

/-! ### Boundary Queue and Segment Table (R68 to R88) -/

/-- The cause of a boundary request (R68). -/
inductive BoundaryCause where
  | localLine (line : Fin 4)
  | peerLine (line : Fin 4)
deriving DecidableEq, Repr

/-- The cause of a segment (R77). -/
inductive SegmentCause where
  | runStart
  | boundary (cause : BoundaryCause)
deriving DecidableEq, Repr

/-- A boundary request (R68). -/
structure Request where
  origin : Byte
  seq : BitVec 16
  index : Nat
  cause : BoundaryCause
deriving DecidableEq, Repr

/-- The least and the greatest level of a segment's DATA frames (R77). -/
structure LevelRange where
  lowest : Level
  highest : Level
deriving DecidableEq, Repr

/-- A live segment (R77). It is OPEN while its end is absent and CLOSED otherwise. -/
structure Segment where
  origin : Byte
  seq : BitVec 16
  cause : SegmentCause
  start : Nat
  ending : Option Nat := none
  requested : Option Nat := none
  dataFrames : Nat := 0
  gapFrames : Nat := 0
  gapSamples : Nat := 0
  levels : Option LevelRange := none
  absorbed : Nat := 0
deriving DecidableEq, Repr

/-- The Boundary Queue and the Segment Table; the defaults are R87's. The live entries occupy consecutive positions from
the head position on, in rotation, in the order of the list (R79); every other position is FREE. -/
structure SegmentTable where
  queue : List Request := []
  head : Nat := 1
  live : List Segment := []
deriving DecidableEq, Repr

/-! ### Frame Assembler (R89 to R116) -/

/-- The flush-age timer (R91). -/
inductive FlushTimer where
  | stopped
  | running
  | expired
deriving DecidableEq, Repr

/-- The assembler's working copy of the DATA frame in assembly (R103, R107). -/
structure WorkingCopy where
  first : Nat
  last : Nat
  level : Level
  origin : Byte
  seq : BitVec 16
  position : Nat
  /-- The number of the block being read. -/
  next : Nat
  /-- For each channel the 16-bit words gathered so far: samples at level 0, minima and maxima in turn above (R107). -/
  gathered : List (List Sample)
deriving DecidableEq, Repr

/-- The pending MEMORY gap (R111, R112). -/
structure MemoryGap where
  first : Nat
  count : Nat
  origin : Byte
  seq : BitVec 16
deriving DecidableEq, Repr

/-- The assembler's three states (R90). -/
inductive AssemblerPhase where
  | idle
  | assembling (copy : WorkingCopy)
  | pending (gap : MemoryGap)
deriving DecidableEq, Repr

/-- The Frame Assembler; the defaults are R116's. -/
structure Assembler where
  drain : Nat := 0
  phase : AssemblerPhase := .idle
  frameSeq : BitVec 32 := 0
  flushTimer : FlushTimer := .stopped
deriving DecidableEq, Repr

/-! ### Spine Interface (R117 to R139) -/

/-- The members of the emission-hold set (R123). -/
structure HoldSet where
  notJoined : Bool := true
  ringOpen : Bool := false
  archiveHold : Bool := false
  archiveAbsent : Bool := false
  addressClash : Bool := false
deriving DecidableEq, Repr

/-- The station states (R158). -/
inductive StationPhase where
  | unconfigured
  | joining
  | ready
  | run
  | flush
  | done
deriving DecidableEq, Repr

/-- The header fields the making block sets in every unit (R182). -/
structure UnitOrigin where
  source : Byte
  device : BitVec 32
  incarnation : Byte
  rateClass : Byte
  runTag : Byte
deriving DecidableEq, Repr

/-- The fields of a note's own (R141, R64). -/
inductive NoteBody where
  | presence (seq : BitVec 16) (phase : StationPhase) (demand effective : Level) (fill : Nat) (hold : HoldSet)
      (lastMarker : BitVec 16)
  | marker (seq : BitVec 16) (line : Fin 4) (index : Nat)
deriving DecidableEq, Repr

/-- A note of the station's own (R117, R120). -/
structure Note where
  origin : UnitOrigin
  body : NoteBody
deriving DecidableEq, Repr

/-- The cause a GAP frame carries (R97, R112). -/
inductive GapCause where
  | drop (cause : DropCause)
  | memory
deriving DecidableEq, Repr

/-- The kind-specific content of a frame (R183). -/
inductive FrameBody where
  | data (first span : Nat) (level : Level) (channels clip pairs : Nat) (payload : List Byte)
  | gap (first count : Nat) (cause : GapCause) (held : Bool)
  | trailer (start ending : Nat) (requested : Option Nat) (dataFrames gapFrames gapSamples : Nat)
      (levels : Option LevelRange) (absorbed : Nat)
deriving DecidableEq, Repr

/-- A frame of the station's own (R117, R122). -/
structure Frame where
  origin : UnitOrigin
  seq : BitVec 32
  segOrigin : Byte
  segSeq : BitVec 16
  body : FrameBody
deriving DecidableEq, Repr

/-- What header arrival decided of the unit arriving (R130). -/
inductive ArrivalFate where
  | discarded
  | strippedOwn
  | strippedOrphan
  | accepted
deriving DecidableEq, Repr

/-- A unit whose header has arrived and whose end has not. -/
structure Arrival where
  header : List Byte
  fate : ArrivalFate
deriving DecidableEq, Repr

/-- An accepted transit unit with bytes still held, or still to come (R127, R130). -/
structure TransitUnit where
  header : List Byte
  /-- The bytes after the header: all of them once the unit has ended at the input, till then those known (log 7). -/
  body : List Byte := []
  /-- The unit's length: as declared, or as received once it has ended short (R119). -/
  length : Nat
  received : Nat
  sent : Nat := 0
  /-- The unit has ended at the input. -/
  ended : Bool := false
deriving DecidableEq, Repr

/-- The output port (R126). FORWARDING sends the oldest transit unit; INSERTING a frame sends the head frame, which stays
in the frame part (R122). -/
inductive OutPort where
  | free
  | forwarding
  | insertingNote (note : Note)
  | insertingFrame
deriving DecidableEq, Repr

/-- The Spine Interface with the Emit Queue; the defaults are R138's, the straps' are log 10's. -/
structure Spine where
  ownAddress : Option Byte := none
  strapSample : BitVec 4 := 0
  input : Option Arrival := none
  transit : List TransitUnit := []
  port : OutPort := .free
  notes : List Note := []
  frames : List Frame := []
  hold : HoldSet := {}
  /-- The last unit that left the output whole, as it was sent (a field of the model's own; log 21). -/
  lastSent : Option (List Byte) := none
deriving DecidableEq, Repr

/-! ### Presence Unit (R140 to R157) -/

/-- The state of a peer entry (R146). -/
inductive PeerPhase where
  | absent
  | live
  | stale
  | mismatched
deriving DecidableEq, Repr

/-- A peer entry; the default is the ABSENT entry (R146). -/
structure PeerEntry where
  phase : PeerPhase := .absent
  lastSeq : BitVec 16 := 0
  demand : Level := 0
  fill : BitVec 16 := 0
  runTag : Byte := 0
  rateClass : Byte := 0
  age : Nat := 0
deriving DecidableEq, Repr

/-- A present ingest record (R149). -/
structure IngestRecord where
  seq : BitVec 16
  level : Level
  hold : Bool
  age : Nat
deriving DecidableEq, Repr

/-- The Presence Unit; the defaults are R157's. -/
structure Presence where
  ticking : Bool := false
  sequence : BitVec 16 := 0
  returnCounter : Nat := 0
  joined : Bool := false
  /-- The peer table: the entry of address a is at place a - 1. -/
  peers : List PeerEntry := List.replicate 14 {}
  ingest : Option IngestRecord := none
  /-- The fill permille f (R151). -/
  fill : Nat := 0
  /-- The demand level D (R152). -/
  demand : Level := 0
  holdCounter : Nat := 0
  /-- The effective level E (R155). -/
  effective : Level := 0
deriving DecidableEq, Repr

/-! ### Station Controller (R158 to R169) -/

/-- A marker line's polarity (R52). -/
inductive Polarity where
  | rising
  | falling
deriving DecidableEq, Repr

/-- A marker line's re-arm mode (R52). -/
inductive RearmMode where
  | manual
  | auto
deriving DecidableEq, Repr

/-- A marker line's setup (R52). -/
structure LineSetup where
  enabled : Bool
  polarity : Polarity
  qualification : Fin 4
  rearm : RearmMode
deriving DecidableEq, Repr

/-- The fault modes (R176, R177). -/
inductive FaultMode where
  | latched
  | live
deriving DecidableEq, Repr

/-- An accepted configuration record (R187). -/
structure Configuration where
  channelCode : Fin 4
  rateClass : Fin 4
  spineRate : Fin 3
  payloadCode : Fin 3
  holdCode : Fin 4
  faultMode : FaultMode
  lines : PerLine LineSetup
deriving DecidableEq, Repr

/-- The reasons a record is rejected for (R159, R186). -/
inductive Rejection where
  | none
  | reservedCombination
  | payloadTooSmall
  | badCode
  | badAddress
deriving DecidableEq, Repr

/-- The Station Controller; the defaults are R169's, the device number's is log 11's. -/
structure Station where
  phase : StationPhase := .unconfigured
  config : Option Configuration := none
  startCount : BitVec 8 := 0
  capturedTag : BitVec 8 := 0
  incarnation : BitVec 8 := 0
  lastRejection : Rejection := .none
  deviceNumber : BitVec 32 := 0
deriving DecidableEq, Repr

/-! ### Management Port and Fault Monitor (R170 to R181) -/

/-- The transaction states (R170); ARGUMENTS remembers the command whose arguments are awaited. -/
inductive PortPhase where
  | idle
  | command
  | arguments (command : ArgCommand)
  | reply
  | done
deriving DecidableEq, Repr

/-- The Management Port. -/
structure ManagementPort where
  phase : PortPhase := .idle
  /-- In REPLY the result byte and the reply bytes, fixed when the command took effect (R171); otherwise empty. -/
  reply : List Byte := []
deriving DecidableEq, Repr

/-- The Fault Monitor; the defaults are R181's: POR, bit 0, alone is set. -/
structure FaultMonitor where
  /-- The fault flags, at the bits of the READ FAULTS snapshot (R175, R188). -/
  flags : BitVec 24 := 1
  mode : FaultMode := .latched
  clearList : Option (BitVec 24) := none
  /-- Bit g set: group g is masked (R180, R186). -/
  alertMask : BitVec 6 := 0
deriving DecidableEq, Repr

/-- The diagnostic counters (R174). -/
structure Counters where
  staged : Nat := 0
  gapSamples : Nat := 0
  forcedRefresh : Nat := 0
  lateRefresh : Nat := 0
  corrected : Nat := 0
  uncorrectable : Nat := 0
  suppressed : Nat := 0
  absorbed : Nat := 0
  clamped : Nat := 0
  overflow : Nat := 0
  checkError : Nat := 0
  orphan : Nat := 0
  unclaimed : Nat := 0
deriving DecidableEq, Repr

/-! ### The station -/

/-- The state of one station, with the commands that wait, first in first out. -/
structure State where
  intake : Intake := {}
  memory : CaptureMemory := {}
  gaps : GapList := {}
  markers : MarkerUnit := {}
  table : SegmentTable := {}
  assembler : Assembler := {}
  spine : Spine := {}
  presence : Presence := {}
  station : Station := {}
  port : ManagementPort := {}
  faults : FaultMonitor := {}
  counters : Counters := {}
  /-- RESET# is asserted (R169). -/
  resetHeld : Bool := false
  pending : List Instr := []
deriving DecidableEq, Repr

/-- Why a step could stop with a fault. There is no reason: the part never stops (log 26), so the type has no constructor.
Nothing raises it; that is safe, since no claim can rest on a stop. -/
inductive Fault
deriving DecidableEq, Repr

/-- Why a step could be refused. -/
inductive Refusal where
  /-- The command has no meaning yet. Raised by no arm of exec: every command has its meaning. Safe: it would stop. -/
  | notModelled (mnemonic : String)
deriving DecidableEq, Repr

/-- The station right after power-on or the release of RESET# (R169 and the rule named at each block), with no command
waiting: every block at its power-on values, POR set, the hold set NOT_JOINED alone. -/
def State.reset : State := {}

end Sys2Proof.Machine
end

