-- ==== Sys2Proof/Machine/Operands.lean ====
section
/-! DEFINITION. How operands are read and written: little-endian fields, the fields of a unit's header, the configuration
record, the quantities a configuration fixes, the per-line records, saturating counts and small list operations. -/

namespace Sys2Proof.Machine

/-! ### Saturation and lists -/

/-- A count that stops at its largest value (00 Conventions, Numbers). -/
def satAdd (limit value by_ : Nat) : Nat := min limit (value + by_)

/-- Change the newest element of a list. -/
def mapLast {α : Type} (f : α → α) : List α → List α
  | [] => []
  | [x] => [f x]
  | x :: y :: rest => x :: mapLast f (y :: rest)

/-- Change the oldest element of a list. -/
def mapHead {α : Type} (f : α → α) : List α → List α
  | [] => []
  | x :: rest => f x :: rest

/-- The element at a place, counted from 0. -/
def nth {α : Type} : List α → Nat → Option α
  | [], _ => none
  | x :: _, 0 => some x
  | _ :: rest, n + 1 => nth rest n

/-- Change the element at a place, counted from 0. -/
def mapNth {α : Type} (f : α → α) : Nat → List α → List α
  | _, [] => []
  | 0, x :: rest => f x :: rest
  | n + 1, x :: rest => x :: mapNth f n rest

/-! ### The four marker lines -/

/-- What is kept for one line. -/
def PerLine.get {α : Type} (p : PerLine α) (line : Fin 4) : α :=
  match line with
  | 0 => p.mk0
  | 1 => p.mk1
  | 2 => p.mk2
  | 3 => p.mk3

/-- Replace what is kept for one line. -/
def PerLine.set {α : Type} (p : PerLine α) (line : Fin 4) (x : α) : PerLine α :=
  match line with
  | 0 => { p with mk0 := x }
  | 1 => { p with mk1 := x }
  | 2 => { p with mk2 := x }
  | 3 => { p with mk3 := x }

/-- Make a record for the four lines from a function of the line. -/
def PerLine.tabulate {α : Type} (f : Fin 4 → α) : PerLine α := ⟨f 0, f 1, f 2, f 3⟩

/-! ### Little-endian fields (00 Conventions, 11) -/

/-- A number as `size` bytes, least significant first. -/
def leBytes : Nat → Nat → List Byte
  | 0, _ => []
  | size + 1, value => BitVec.ofNat 8 value :: leBytes size (value / 256)

/-- The number that bytes, least significant first, spell. -/
def leValue : List Byte → Nat
  | [] => 0
  | b :: rest => b.toNat + 256 * leValue rest

/-- The byte at an offset of a unit or record. -/
def byteAt (bytes : List Byte) (offset : Nat) : Byte := (nth bytes offset).getD 0

/-- The number in the `size` bytes at an offset. -/
def fieldAt (bytes : List Byte) (offset size : Nat) : Nat := leValue ((bytes.drop offset).take size)

/-- A flag as a number. -/
def bit (b : Bool) : Nat := if b then 1 else 0

/-! ### Header fields of a received unit (R117, R182, R183) -/

def kindOf (header : List Byte) : Byte := byteAt header 0
def hopOf (header : List Byte) : Nat := (byteAt header 1).toNat
def sourceOf (header : List Byte) : Byte := byteAt header 2
def deviceOf (header : List Byte) : BitVec 32 := BitVec.ofNat 32 (fieldAt header 4 4)
def incarnationOf (header : List Byte) : Byte := byteAt header 8
def rateClassOf (header : List Byte) : Byte := byteAt header 9
def runTagOf (header : List Byte) : Byte := byteAt header 10
def payloadLengthOf (header : List Byte) : Nat := fieldAt header 12 2

/-- A unit's length as its header declares it: 64 plus the payload length (R117). -/
def unitLengthOf (header : List Byte) : Nat := 64 + payloadLengthOf header

/-- The payload length is one no unit has (R119, bad length). -/
def badLength (header : List Byte) : Bool :=
  decide (Config.maxPayload < payloadLengthOf header) || decide (payloadLengthOf header % 4 ≠ 0)

/-- A received level; a value above 4 is taken as 4 (R147, R149). -/
def levelOf (b : Byte) : Level :=
  match b.toNat with
  | 0 => 0
  | 1 => 1
  | 2 => 2
  | 3 => 3
  | _ => 4

/-- PRESENCE fields that a station reads (R183). -/
def presenceSeqOf (header : List Byte) : BitVec 16 := BitVec.ofNat 16 (fieldAt header 16 2)
def presenceDemandOf (header : List Byte) : Level := levelOf (byteAt header 19)
def presenceFillOf (header : List Byte) : BitVec 16 := BitVec.ofNat 16 (fieldAt header 22 2)

/-- MARKER fields (R183). -/
def markerSeqOf (header : List Byte) : BitVec 16 := BitVec.ofNat 16 (fieldAt header 16 2)
def markerLineOf (header : List Byte) : Nat := (byteAt header 18).toNat
def markerIndexOf (header : List Byte) : Nat := fieldAt header 20 6

/-- INGEST fields (R183). -/
def ingestSeqOf (header : List Byte) : BitVec 16 := BitVec.ofNat 16 (fieldAt header 16 2)
def ingestLevelOf (header : List Byte) : Level := levelOf (byteAt header 18)
def ingestHoldOf (header : List Byte) : Bool := (byteAt header 19).getLsbD 0

/-! ### The configuration record (R159, R187) -/

/-- The qualification duration of a line's code, in ns (R52). -/
def LineSetup.durationNs (setup : LineSetup) : Nat :=
  match setup.qualification with
  | 0 => 64
  | 1 => 1024
  | 2 => 16384
  | 3 => 262144

/-- A line setup byte; its bits 5 to 7 are ignored (R187). -/
def lineSetupOf (b : Byte) : LineSetup where
  enabled := b.getLsbD 0
  polarity := if b.getLsbD 1 then .falling else .rising
  qualification := Fin.ofNat 4 (b.toNat / 4)
  rearm := if b.getLsbD 4 then .auto else .manual

/-- The record's fields as a configuration (R187). Meant for a record that passes the tests of R159. -/
def configurationOf (record : List Byte) : Configuration where
  channelCode := Fin.ofNat 4 (byteAt record 1).toNat
  rateClass := Fin.ofNat 4 (byteAt record 2).toNat
  spineRate := Fin.ofNat 3 (byteAt record 3).toNat
  payloadCode := Fin.ofNat 3 (byteAt record 4).toNat
  holdCode := Fin.ofNat 4 (byteAt record 5).toNat
  faultMode := if byteAt record 6 = 1 then .live else .latched
  lines := ⟨lineSetupOf (byteAt record 8), lineSetupOf (byteAt record 9), lineSetupOf (byteAt record 10),
    lineSetupOf (byteAt record 11)⟩

/-- Test 2 of R159: every code in its range and every reserved byte 0. -/
def codesInRange (record : List Byte) : Bool :=
  decide ((byteAt record 1).toNat ≤ 3) && decide ((byteAt record 2).toNat ≤ 3) &&
  decide ((byteAt record 3).toNat ≤ 2) && decide ((byteAt record 4).toNat ≤ 2) &&
  decide ((byteAt record 5).toNat ≤ 3) && decide ((byteAt record 6).toNat ≤ 1) &&
  decide (byteAt record 7 = 0) && decide (byteAt record 12 = 0) && decide (byteAt record 13 = 0) &&
  decide (byteAt record 14 = 0) && decide (byteAt record 15 = 0)

/-- A strap sample that can be a station's address (R118). -/
def isStationAddress (straps : BitVec 4) : Bool := decide (1 ≤ straps.toNat) && decide (straps.toNat ≤ 14)

/-- Test 4 of R159: the spine rate and payload pairs that are refused. -/
def reservedPair (spineRate payloadCode : Nat) : Bool :=
  (decide (spineRate = 0) && decide (payloadCode = 2)) || (decide (spineRate = 2) && decide (payloadCode = 0))

/-- The channels a channel code enables (R187). -/
def channelsOfCode (code : Nat) : Nat := 2 ^ code

/-- The payload size Q of a payload code (R187). -/
def payloadOfCode (code : Nat) : Nat := 4096 * 2 ^ code

/-- The first test of R159 that the record fails, with the strap sample taken at the command. -/
def recordRejection (record : List Byte) (straps : BitVec 4) : Rejection :=
  if byteAt record 0 ≠ 1 then .badCode
  else if !codesInRange record then .badCode
  else if !isStationAddress straps then .badAddress
  else if reservedPair (byteAt record 3).toNat (byteAt record 4).toNat then .reservedCombination
  else if payloadOfCode (byteAt record 4).toNat < 1024 * channelsOfCode (byteAt record 1).toNat then .payloadTooSmall
  else .none

/-! ### What the configuration fixes -/

/-- The number n of enabled channels; 0 while no configuration is in force (R2, R19). -/
def State.channels (s : State) : Nat :=
  match s.station.config with
  | some c => channelsOfCode c.channelCode
  | none => 0

/-- The block capacity C (R19). -/
def State.capacity (s : State) : Nat :=
  match s.station.config with
  | some c => Config.ringBlocks / channelsOfCode c.channelCode
  | none => 0

/-- The payload size Q (R101); 0 while no configuration is in force. -/
def State.payloadSize (s : State) : Nat :=
  match s.station.config with
  | some c => payloadOfCode c.payloadCode
  | none => 0

/-- The hold time H in ticks (R152); 0 while no configuration is in force. -/
def State.holdTime (s : State) : Nat :=
  match s.station.config with
  | some c => 4 ^ (c.holdCode.val + 1)
  | none => 0

/-- The configured sample rate class as the headers carry it (R182); 0 while no configuration is in force. -/
def State.rateClass (s : State) : Byte :=
  match s.station.config with
  | some c => BitVec.ofNat 8 c.rateClass
  | none => 0

/-- The setup of a line, if it has one and is enabled (R52). -/
def State.enabledSetup (s : State) (line : Fin 4) : Option LineSetup :=
  match s.station.config with
  | some c => if (c.lines.get line).enabled then some (c.lines.get line) else none
  | none => none

/-- The held count B (R21). -/
def State.held (s : State) : Nat := s.memory.staging.length + s.memory.storedCount

/-- The run tag: the captured tag in RUN and FLUSH, the start count otherwise (R161). -/
def State.runTag (s : State) : BitVec 8 :=
  match s.station.phase with
  | .run => s.station.capturedTag
  | .flush => s.station.capturedTag
  | _ => s.station.startCount

/-- The header fields of the units this station makes now (R182). -/
def State.unitOrigin (s : State) : UnitOrigin where
  source := s.spine.ownAddress.getD 0
  device := s.station.deviceNumber
  incarnation := s.station.incarnation
  rateClass := s.rateClass
  runTag := s.runTag

end Sys2Proof.Machine
end

