-- ==== Sys2Proof/Machine/Flags.lean ====
section
/-! DEFINITION. The Fault Monitor's flags: their bits, the conditions that stand, reports, the clear list and ALERT#
(R175 to R181). -/

namespace Sys2Proof.Machine

/-- The 24 fault flags, in the bit order of the READ FAULTS snapshot (R175, R188). -/
inductive Flag where
  | por
  | startMissed
  | configRejected
  | indexExhausted
  | gapActive
  | gapHeld
  | laneFault
  | refreshForced
  | refreshLate
  | hot
  | overtemp
  | memoryError
  | ringOpen
  | transitOverflow
  | checkError
  | orphan
  | archiveAbsent
  | addressClash
  | peerStale
  | peerMismatch
  | archiveHold
  | markerSuppressed
  | markerAbsorbed
  | boundaryClamped
deriving DecidableEq, Repr

/-- A flag's bit in the snapshot (R188). -/
def Flag.index : Flag → Nat
  | .por => 0
  | .startMissed => 1
  | .configRejected => 2
  | .indexExhausted => 3
  | .gapActive => 4
  | .gapHeld => 5
  | .laneFault => 6
  | .refreshForced => 7
  | .refreshLate => 8
  | .hot => 9
  | .overtemp => 10
  | .memoryError => 11
  | .ringOpen => 12
  | .transitOverflow => 13
  | .checkError => 14
  | .orphan => 15
  | .archiveAbsent => 16
  | .addressClash => 17
  | .peerStale => 18
  | .peerMismatch => 19
  | .archiveHold => 20
  | .markerSuppressed => 21
  | .markerAbsorbed => 22
  | .boundaryClamped => 23

/-- The word with one flag's bit, or none. -/
def Flag.mask (f : Flag) (present : Bool) : BitVec 24 :=
  if present then BitVec.ofNat 24 (2 ^ f.index) else 0

/-- The flags of each of the six groups, SYSTEM, CAPTURE, MEMORY, SPINE, PEER, MARKER, as words (R188). -/
def groupFlags : List (BitVec 24) := [0x00000F, 0x000070, 0x000F80, 0x03F000, 0x1C0000, 0xE00000]

/-- The condition flags: INDEX_EXHAUSTED, GAP_ACTIVE, GAP_HELD, LANE_FAULT, HOT, OVERTEMP, RING_OPEN, ARCHIVE_ABSENT,
ADDRESS_CLASH, PEER_STALE, PEER_MISMATCH, ARCHIVE_HOLD (R175). -/
def conditionFlags : BitVec 24 := 0x1F1678

/-- An enabled lane reports OUT OF ALIGNMENT (R2). -/
def State.laneFault (s : State) : Bool :=
  (List.range s.channels).any fun lane => s.intake.laneOut.getLsbD lane

/-- Some peer entry is in a state (R148). -/
def State.somePeer (s : State) (phase : PeerPhase) : Bool := s.presence.peers.any fun e => e.phase == phase

/-- The conditions that stand, each at its flag's bit (R175; each block's rule is named). -/
def State.conditions (s : State) : BitVec 24 :=
  Flag.mask .indexExhausted s.intake.exhausted ||| -- R16
  Flag.mask .gapActive s.gaps.active ||| -- R49
  Flag.mask .gapHeld s.gaps.overrun ||| -- R49
  Flag.mask .laneFault s.laneFault ||| -- R2
  Flag.mask .hot (s.memory.thermal != .normal) ||| -- R32
  Flag.mask .overtemp (s.memory.thermal == .overtemp) ||| -- R32
  Flag.mask .ringOpen s.spine.hold.ringOpen ||| -- R143
  Flag.mask .archiveAbsent s.spine.hold.archiveAbsent ||| -- R124
  Flag.mask .addressClash s.spine.hold.addressClash ||| -- R145
  Flag.mask .peerStale (s.somePeer .stale) ||| -- R148
  Flag.mask .peerMismatch (s.somePeer .mismatched) ||| -- R148
  Flag.mask .archiveHold s.spine.hold.archiveHold -- R149

/-- Reports that set flags: each becomes set, and leaves the clear list (R175, R178). -/
def FaultMonitor.raise (m : FaultMonitor) (flags : BitVec 24) : FaultMonitor :=
  { m with flags := m.flags ||| flags, clearList := m.clearList.map (· &&& ~~~flags) }

/-- A report of one event sets its flag (R175). -/
def State.setFlag (s : State) (f : Flag) : State := { s with faults := s.faults.raise (f.mask true) }

/-- The conditions that stand in `after` and did not in `before`. -/
def begun (before after : State) : BitVec 24 := after.conditions &&& ~~~before.conditions

/-- The blocks' reports of the conditions that changed from `before` to `after`. One that begins sets its flag (R176);
in LIVE mode every condition flag takes the present state of its condition (R177). -/
def report (before after : State) : State :=
  match after.faults.mode with
  | .latched => { after with faults := after.faults.raise (begun before after) }
  | .live =>
    { after with
      faults :=
        { after.faults.raise (begun before after) with
          flags := (after.faults.flags &&& ~~~conditionFlags) ||| after.conditions } }

/-- The flags a completed READ FAULTS clears: those on the list whose condition is absent (R178). -/
def State.clearable (s : State) (list : BitVec 24) : BitVec 24 := list &&& ~~~s.conditions

/-- ALERT# is asserted: a flag of an unmasked group is set, and RESET# is not asserted (R180). -/
def State.alert (s : State) : Bool :=
  !s.resetHeld &&
  (List.range 6).any fun g =>
    !s.faults.alertMask.getLsbD g && decide (s.faults.flags &&& (groupFlags.getD g 0) ≠ 0)

end Sys2Proof.Machine
end

