-- ==== Sys2Proof/Machine/Formats.lean ====
section
/-! DEFINITION. Byte layouts (11): the check word, the units the station inserts and forwards, and the management
replies. -/

namespace Sys2Proof.Machine

/-! ### The check word (R185) -/

/-- One data bit into the check register: shifted one place down, and XOR-ed with the reflected generator when the bit
shifted out differs from the data bit (R185). -/
def crcBit (register : BitVec 32) (dataBit : Bool) : BitVec 32 :=
  if (register.getLsbD 0) == dataBit then register >>> 1 else (register >>> 1) ^^^ 0xEDB88320#32

/-- One byte into the check register, bit 0 first (R185). -/
def crcByte (register : BitVec 32) (byte : Byte) : BitVec 32 :=
  [0, 1, 2, 3, 4, 5, 6, 7].foldl (fun r i => crcBit r (byte.getLsbD i)) register

/-- The CRC-32 of some bytes (R185). -/
def crc32 (bytes : List Byte) : BitVec 32 := ~~~(bytes.foldl crcByte 0xFFFFFFFF#32)

/-- The check word of a unit: over the header with its hop-count byte taken as 0, then the payload (R185). -/
def checkWord (header payload : List Byte) : BitVec 32 := crc32 (mapNth (fun _ => 0) 1 header ++ payload)

/-! ### Units the station inserts (R129, R182, R183) -/

def zeros (n : Nat) : List Byte := List.replicate n 0

/-- The common header (R182), with hop count 0 as at insertion (R129). -/
def commonHeader (kind destination : Byte) (o : UnitOrigin) (payloadLength : Nat) : List Byte :=
  [kind, 0, o.source, destination] ++ leBytes 4 o.device.toNat ++ [o.incarnation, o.rateClass, o.runTag, 0] ++
    leBytes 2 payloadLength ++ [0, 0]

/-- The code of a station state (R183, STATUS). -/
def stationCode : StationPhase → Byte
  | .unconfigured => 0
  | .joining => 1
  | .ready => 2
  | .run => 3
  | .flush => 4
  | .done => 5

/-- The encoding of the hold set (R183, PRESENCE offset 24). -/
def holdCode (h : HoldSet) : Byte :=
  BitVec.ofNat 8 (bit h.notJoined + 2 * bit h.ringOpen + 4 * bit h.archiveHold + 8 * bit h.archiveAbsent +
    16 * bit h.addressClash)

/-- The code of a drop cause (R183, READ GAP). -/
def dropCode : DropCause → Byte
  | .lane => 1
  | .thermal => 2
  | .ringFull => 3
  | .portBusy => 4

/-- The code of a GAP frame's cause (R183). -/
def gapCauseCode : GapCause → Byte
  | .drop c => dropCode c
  | .memory => 5

/-- A note's kind (R182). -/
def noteKind : NoteBody → Byte
  | .presence .. => 0x10
  | .marker .. => 0x11

/-- The kind-specific 44 bytes of a note (R183). -/
def noteFields : NoteBody → List Byte
  | .presence seq phase demand effective fill hold lastMarker =>
    leBytes 2 seq.toNat ++ [stationCode phase, BitVec.ofNat 8 demand, BitVec.ofNat 8 effective, 0] ++
      leBytes 2 fill ++ [holdCode hold, 0] ++ leBytes 2 lastMarker.toNat ++ zeros 32
  | .marker seq line index =>
    leBytes 2 seq.toNat ++ [BitVec.ofNat 8 line, 0] ++ leBytes 6 index ++ zeros 34

/-- The 60 header bytes of a note; its destination is 15 (R117). -/
def noteHeader (n : Note) : List Byte := commonHeader (noteKind n.body) 15 n.origin 0 ++ noteFields n.body

/-- A frame's kind (R182). -/
def frameKind : FrameBody → Byte
  | .data .. => 1
  | .gap .. => 2
  | .trailer .. => 3

/-- A frame's payload; only DATA has one (R117). -/
def framePayload : FrameBody → List Byte
  | .data _ _ _ _ _ _ payload => payload
  | .gap .. => []
  | .trailer .. => []

/-- Offsets 21 and 24 to 59 of a frame (R183): the byte after the origin, and the bytes after the identity. -/
def frameFields : FrameBody → Byte × List Byte
  | .data first span level channels clip pairs _ =>
    (0, leBytes 6 first ++ [0, 0] ++ leBytes 4 span ++
      [BitVec.ofNat 8 level, BitVec.ofNat 8 channels, BitVec.ofNat 8 clip, 0] ++ leBytes 2 pairs ++ zeros 18)
  | .gap first count cause held =>
    (0, leBytes 6 first ++ [0, 0] ++ leBytes 8 count ++ [gapCauseCode cause, BitVec.ofNat 8 (bit held)] ++ zeros 18)
  | .trailer start ending requested dataFrames gapFrames gapSamples levels absorbed =>
    (BitVec.ofNat 8 (bit requested.isSome + 2 * bit levels.isSome),
      leBytes 6 start ++ leBytes 6 ending ++ leBytes 6 (requested.getD 0) ++ leBytes 4 dataFrames ++
        leBytes 4 gapFrames ++ leBytes 7 gapSamples ++
        [match levels with
          | some r => BitVec.ofNat 8 (r.lowest.val + 16 * r.highest.val)
          | none => 0] ++ leBytes 2 absorbed)

/-- The 60 header bytes of a frame; its destination is 0 (R117). -/
def frameHeader (f : Frame) : List Byte :=
  commonHeader (frameKind f.body) 0 f.origin (framePayload f.body).length ++ leBytes 4 f.seq.toNat ++
    [f.segOrigin, (frameFields f.body).1] ++ leBytes 2 f.segSeq.toNat ++ (frameFields f.body).2

/-- A unit as it leaves the output: header, payload and the check word over them, least significant byte first
(R129, R185). -/
def sealUnit (header payload : List Byte) : List Byte :=
  header ++ payload ++ leBytes 4 (checkWord header payload).toNat

/-- A unit in transit as it leaves the output: the hop count raised by 1, everything else as received (R132). -/
def forwardedUnit (u : TransitUnit) : List Byte := mapNth (· + 1) 1 u.header ++ u.body

/-- The unit on the spine output: the one being forwarded or inserted (R126, R129, R132). Of a forwarded unit that still
arrives, the bytes known so far stand here; every byte of it stands here when its last one is sent (log 7). -/
def State.outputUnit (s : State) : Option (List Byte) :=
  match s.spine.port, s.spine.transit, s.spine.frames with
  | .free, _, _ => none
  | .forwarding, u :: _, _ => some (forwardedUnit u)
  | .forwarding, [], _ => none
  | .insertingNote n, _, _ => some (sealUnit (noteHeader n) [])
  | .insertingFrame, _, f :: _ => some (sealUnit (frameHeader f) (framePayload f.body))
  | .insertingFrame, _, [] => none

/-! ### Management replies (R173, R174, R178, R186, R188) -/

/-- The result bytes (R186). -/
def resultOk : Byte := 0x80
def resultRefusedState : Byte := 0x81
def resultRefusedConfig : Byte := 0x82
def resultUnknownCommand : Byte := 0x83

/-- The reason byte of a rejection (R186). -/
def rejectionCode : Rejection → Byte
  | .none => 0
  | .reservedCombination => 1
  | .payloadTooSmall => 2
  | .badCode => 3
  | .badAddress => 4

/-- The code of a thermal mode (STATUS offset 12). -/
def thermalCode : ThermalMode → Byte
  | .normal => 0
  | .hot => 1
  | .overtemp => 2

/-- The code of a fault mode (READ FAULTS offset 4). -/
def faultModeCode : FaultMode → Byte
  | .latched => 0
  | .live => 1

/-- The intake point as it is reported: the intake end in ENDED, 0 in IDLE (R7, R173). -/
def State.reportedPoint (s : State) : Nat :=
  match s.intake.phase with
  | .idle => 0
  | .taking => s.intake.point
  | .ended => s.intake.ending.getD s.intake.point

/-- The reply of IDENTIFY (R173): 7 bytes. -/
def identifyReply (s : State) : List Byte :=
  leBytes 4 s.station.deviceNumber.toNat ++
    [BitVec.ofNat 8 Config.revision, s.spine.strapSample.setWidth 8, s.station.startCount]

/-- The status record (R173): 28 bytes. -/
def statusReply (s : State) : List Byte :=
  [stationCode s.station.phase, holdCode s.spine.hold, BitVec.ofNat 8 s.presence.demand,
    BitVec.ofNat 8 s.presence.effective] ++ leBytes 2 s.presence.fill ++ leBytes 4 s.held ++
    [BitVec.ofNat 8 s.gaps.entries.length, BitVec.ofNat 8 s.table.live.length, thermalCode s.memory.thermal,
      BitVec.ofInt 8 s.memory.owed] ++ leBytes 7 s.reportedPoint ++ leBytes 7 s.assembler.drain

/-- The reply of READ FAULTS (R178): 7 bytes. -/
def faultsReply (s : State) : List Byte :=
  leBytes 4 s.faults.flags.toNat ++
    [faultModeCode s.faults.mode, s.faults.alertMask.setWidth 8, rejectionCode s.station.lastRejection]

/-- The reply of READ COUNTERS (R174): 54 bytes. -/
def countersReply (c : Counters) : List Byte :=
  leBytes 4 c.staged ++ leBytes 6 c.gapSamples ++ leBytes 4 c.forcedRefresh ++ leBytes 4 c.lateRefresh ++
    leBytes 4 c.corrected ++ leBytes 4 c.uncorrectable ++ leBytes 4 c.suppressed ++ leBytes 4 c.absorbed ++
    leBytes 4 c.clamped ++ leBytes 4 c.overflow ++ leBytes 4 c.checkError ++ leBytes 4 c.orphan ++
    leBytes 4 c.unclaimed

/-- The code of a segment's cause (READ SEGMENT offset 3). -/
def segmentCauseCode : SegmentCause → Byte
  | .runStart => 0
  | .boundary (.localLine line) => BitVec.ofNat 8 (16 + line.val)
  | .boundary (.peerLine line) => BitVec.ofNat 8 (32 + line.val)

/-- The record of READ SEGMENT for a live entry, or the null record (R86): 43 bytes. -/
def segmentReply : Option Segment → List Byte
  | none => zeros 43
  | some g =>
    [if g.ending.isSome then 2 else 1,
      BitVec.ofNat 8 (bit g.ending.isSome + 2 * bit g.requested.isSome + 4 * bit g.levels.isSome), g.origin,
      segmentCauseCode g.cause] ++ leBytes 2 g.seq.toNat ++ leBytes 6 g.start ++ leBytes 6 (g.ending.getD 0) ++
      leBytes 6 (g.requested.getD 0) ++ leBytes 4 g.dataFrames ++ leBytes 4 g.gapFrames ++ leBytes 7 g.gapSamples ++
      (match g.levels with
        | some r => [BitVec.ofNat 8 r.lowest, BitVec.ofNat 8 r.highest]
        | none => [0, 0]) ++ leBytes 2 g.absorbed

/-- The table position of the place-th live entry, counted from the head (R79). -/
def positionOf (head place : Nat) : Nat := (head - 1 + place) % 63 + 1

/-- The live entry at a table position, if there is one (R79, R86). -/
def State.segmentAt (s : State) (position : Nat) : Option Segment :=
  if position = 0 ∨ 63 < position then none
  else nth s.table.live ((position + 63 - s.table.head) % 63)

/-- The record of READ GAP for an entry, or the zero record (R51): 30 bytes. -/
def gapReply : Option GapEntry → List Byte
  | none => zeros 30
  | some e =>
    [if e.isOpen then 1 else 2, dropCode e.cause, BitVec.ofNat 8 (bit e.heldFlag + 2 * bit e.heldPart.isSome), 0] ++
      leBytes 6 e.first ++ leBytes 7 e.count ++
      (match e.heldPart with
        | some h => leBytes 6 h.first ++ leBytes 7 h.count
        | none => zeros 13)

/-- The code of a peer entry's state (READ PEER offset 0). -/
def peerCode : PeerPhase → Byte
  | .absent => 0
  | .live => 1
  | .stale => 2
  | .mismatched => 3

/-- The record of READ PEER for an address from 1 to 14 (R156): 16 bytes. -/
def peerReply (e : PeerEntry) : List Byte :=
  [peerCode e.phase, BitVec.ofNat 8 e.demand] ++ leBytes 2 e.fill.toNat ++
    [e.runTag, e.rateClass, BitVec.ofNat 8 e.age, 0] ++ leBytes 2 e.lastSeq.toNat ++ zeros 6

/-- The record of READ PEER for address 0, the ingest record (R156): 16 bytes. -/
def ingestReply : Option IngestRecord → List Byte
  | none => zeros 16
  | some r =>
    [1, BitVec.ofNat 8 r.level, BitVec.ofNat 8 (bit r.hold), 0] ++ leBytes 2 r.seq.toNat ++
      [BitVec.ofNat 8 r.age] ++ zeros 9

/-- The record of READ PEER: the ingest record at 0, the peer entry at 1 to 14, zero at the own address and at 15 or
above (R156, R188). -/
def peerRecord (s : State) (address : Byte) : List Byte :=
  if address = 0 then ingestReply s.presence.ingest
  else if 15 ≤ address.toNat ∨ s.spine.ownAddress = some address then zeros 16
  else peerReply ((nth s.presence.peers (address.toNat - 1)).getD {})

end Sys2Proof.Machine
end

