-- ==== Sys2Proof/Machine/Ops.lean ====
section
/-! DEFINITION. The shared operations on the DRAM ring, its port, the Emit Queue and the output port. -/

namespace Sys2Proof.Machine

/-! ### The DRAM (R19, R20, R24 to R26; log 13) -/

/-- The canonical form of the DRAM's list: slots strictly rising, so one entry a slot. -/
def Memory.wf : List (Nat × Slot) → Bool
  | [] => true
  | [_] => true
  | (a, _) :: (b, y) :: rest => decide (a < b) && Memory.wf ((b, y) :: rest)

/-- What a slot holds; a slot that is not listed holds no block. -/
def dramRead (slot : Nat) : List (Nat × Slot) → Option Slot
  | [] => none
  | (a, x) :: rest => if a = slot then some x else dramRead slot rest

/-- Write a slot, keeping the canonical form. -/
def dramWrite (slot : Nat) (value : Slot) : List (Nat × Slot) → List (Nat × Slot)
  | [] => [(slot, value)]
  | (a, x) :: rest =>
    if slot < a then (slot, value) :: (a, x) :: rest
    else if slot = a then (slot, value) :: rest
    else (a, x) :: dramWrite slot value rest

/-- The slot after a slot, from C - 1 to 0 (R20). -/
def nextSlot (capacity slot : Nat) : Nat := if slot + 1 < capacity then slot + 1 else 0

/-- A block's last sample index: its first index plus its fill count, minus 1 (R26). -/
def Block.lastSample (b : Block) : Nat := Config.blockSamples * b.number + b.fill - 1

/-- The record of the block at the drain slot, when a block is stored (R26). -/
def State.drainBlock (s : State) : Option Block :=
  if s.memory.storedCount = 0 then none else (dramRead s.memory.drainSlot s.memory.dram).map Slot.block

/-- The newest stored block, the one in the slot before the write slot, when a block is stored (R26). -/
def State.newestBlock (s : State) : Option Block :=
  if s.memory.storedCount = 0 then none
  else
    (dramRead (if s.memory.writeSlot = 0 then s.capacity - 1 else s.memory.writeSlot - 1) s.memory.dram).map Slot.block

/-- Release the block at the drain slot: B and the stored count fall by 1, the drain slot advances, and the slot's
contents are left as they are (R25). -/
def releaseBlock (s : State) : State :=
  { s with
    memory :=
      { s.memory with
        storedCount := s.memory.storedCount - 1
        drainSlot := nextSlot s.capacity s.memory.drainSlot } }

/-- Release, in order, the blocks at the drain slot whose last sample is at most `last`, at most `n` of them (R109). -/
def releaseThrough (last : Nat) : Nat → State → State
  | 0, s => s
  | n + 1, s =>
    match s.drainBlock with
    | some b => if b.lastSample ≤ last then releaseThrough last n (releaseBlock s) else s
    | none => s

/-! ### The DRAM port (R27 to R31) -/

/-- The refresh interval of the thermal mode (R29). -/
def refreshInterval : ThermalMode → Nat
  | .normal => Config.refreshNormalNs
  | .hot => Config.refreshHotNs
  | .overtemp => Config.refreshHotNs

/-- What the arbiter grants among the waiting claims, in the order of R27. -/
def portChoice (m : CaptureMemory) : Option PortOp :=
  if m.owed = 8 then some (.refresh .forced)
  else if m.staging ≠ [] then some .write
  else if m.readRequest.isSome then some .read
  else if 0 < m.owed then some (.refresh .postponed)
  else if -8 < m.owed then some (.refresh .pullIn)
  else none

/-- The arbiter's grant: when the port is free and something waits, it starts; the grant of a forced refresh sets
REFRESH_FORCED and counts (R27, R30). -/
def grantPort (s : State) : State :=
  if s.memory.selfRefresh = false ∧ s.memory.op = none then
    match portChoice s.memory with
    | none => s
    | some (.refresh .forced) =>
      { s with
        memory := { s.memory with op := some { op := .refresh .forced } }
        counters := { s.counters with forcedRefresh := satAdd Config.counter32 s.counters.forcedRefresh 1 }
        faults := s.faults.raise (Flag.mask .refreshForced true) }
    | some op => { s with memory := { s.memory with op := some { op := op } } }
  else s

/-- The port's operation has completed: the port is free and the arbiter grants (R27); in UNCONFIGURED the DRAM enters
self-refresh instead (R31, R36). -/
def portFreed (s : State) : State :=
  match s.station.config with
  | none => { s with memory := { s.memory with op := none, selfRefresh := true } }
  | some _ => grantPort { s with memory := { s.memory with op := none } }

/-! ### The output port and its arbiter (R125 to R127) -/

/-- The transit occupancy: bytes received for accepted units and not yet sent (R127). -/
def occupancy : List TransitUnit → Nat
  | [] => 0
  | u :: rest => (u.received - u.sent) + occupancy rest

/-- The emission-hold set is empty (R123). -/
def HoldSet.isEmpty (h : HoldSet) : Bool :=
  !h.notJoined && !h.ringOpen && !h.archiveHold && !h.archiveAbsent && !h.addressClash

/-- A note may be inserted: the station is not in UNCONFIGURED and ADDRESS_CLASH is absent (R125). -/
def State.notesEligible (s : State) : Bool :=
  decide (s.station.phase ≠ .unconfigured) && !s.spine.hold.addressClash

/-- The arbiter's choice on a FREE port, in the order of R127. -/
def chooseOutput (s : State) : State :=
  if s.spine.transit ≠ [] ∧ Config.insertionThreshold < occupancy s.spine.transit then
    { s with spine := { s.spine with port := .forwarding } }
  else
    match s.notesEligible, s.spine.notes with
    | true, n :: rest => { s with spine := { s.spine with port := .insertingNote n, notes := rest } }
    | _, _ =>
      if s.spine.hold.isEmpty = true ∧ s.spine.frames ≠ [] then
        { s with spine := { s.spine with port := .insertingFrame } }
      else if s.spine.transit ≠ [] then { s with spine := { s.spine with port := .forwarding } }
      else s

/-- An event that may give a FREE port something to send (R126). -/
def arbitrate (s : State) : State := if s.spine.port = .free then chooseOutput s else s

/-- The unit on the output has been sent to its last byte (R126, R132; log 21). -/
def noteSentUnit (s : State) : State := { s with spine := { s.spine with lastSent := s.outputUnit } }

/-- The output port becomes FREE, and a choice is made (R126). -/
def outputFreed (s : State) : State := arbitrate { s with spine := { s.spine with port := .free } }

/-- A note joins the note part at its tail (R120). -/
def joinNote (n : Note) (s : State) : State :=
  arbitrate { s with spine := { s.spine with notes := s.spine.notes ++ [n] } }

/-- The note is a presence note. -/
def Note.isPresence (n : Note) : Bool :=
  match n.body with
  | .presence .. => true
  | .marker .. => false

/-- Replace the queued presence note, if there is one, by a new one at its place (R121). -/
def replacePresence (n : Note) : List Note → Option (List Note)
  | [] => none
  | m :: rest => if m.isPresence then some (n :: rest) else (replacePresence n rest).map (m :: ·)

/-- A presence note falls due (R121). -/
def queuePresence (n : Note) (s : State) : State :=
  match replacePresence n s.spine.notes with
  | some notes => { s with spine := { s.spine with notes := notes } }
  | none => if s.spine.notes.length < Config.noteSlots then joinNote n s else s

/-- A frame joins the frame part at its tail (R122). -/
def joinFrame (f : Frame) (s : State) : State :=
  arbitrate { s with spine := { s.spine with frames := s.spine.frames ++ [f] } }

/-! ### The strap sample (R118) -/

/-- The own address after a sample of the straps: 1 to 14 becomes the own address; 0 or 15 leaves none in UNCONFIGURED,
and leaves the own address as it stood in any other state. -/
def State.addressSampled (straps : BitVec 4) (s : State) : Option Byte :=
  if isStationAddress straps then some (straps.setWidth 8)
  else if s.station.phase = .unconfigured then none
  else s.spine.ownAddress

/-- The peer table after a sample of the straps: the entry at the address that becomes the own one is ABSENT (R146,
R156; log 17). -/
def peersSampled (straps : BitVec 4) (peers : List PeerEntry) : List PeerEntry :=
  if isStationAddress straps then mapNth (fun _ => {}) (straps.toNat - 1) peers else peers

/-- A sample of the straps (R118, R146). -/
def sampleStraps (straps : BitVec 4) (s : State) : State :=
  { s with
    spine := { s.spine with strapSample := straps, ownAddress := s.addressSampled straps }
    presence := { s.presence with peers := peersSampled straps s.presence.peers } }

end Sys2Proof.Machine
end

