-- ==== Sys2Proof/Machine/Gaps.lean ====
section
/-! DEFINITION. The stage-or-drop decision and the Gap List (R9 to R13, R39 to R51). -/

namespace Sys2Proof.Machine

/-! ### The Gap List -/

/-- The last index of an entry's front range (R39). -/
def GapEntry.frontEnd (e : GapEntry) : Nat := e.first + e.count - 1

/-- The end of an entry: the last index of its held part, or of its front range (R39). -/
def GapEntry.finish (e : GapEntry) : Nat :=
  match e.heldPart with
  | some h => h.first + h.count - 1
  | none => e.frontEnd

/-- A front range is settled when its entry is CLOSED or has a held part (R46). -/
def GapEntry.settled (e : GapEntry) : Bool := !e.isOpen || e.heldPart.isSome

/-- The last range of an entry grows by `k` (R42). -/
def GapEntry.grow (k : Nat) (e : GapEntry) : GapEntry :=
  match e.heldPart with
  | some h => { e with heldPart := some { h with count := h.count + k } }
  | none => { e with count := e.count + k }

/-- The newest entry becomes CLOSED (R41, R45). -/
def GapList.closeNewest (g : GapList) : GapList :=
  { g with entries := mapLast (fun e => { e with isOpen := false }) g.entries }

/-- A staged report (R41). -/
def GapList.staged (g : GapList) : GapList := { g.closeNewest with active := false }

/-- A drop of this cause at index `a` continues the entry (R42, merge). -/
def GapEntry.continues (e : GapEntry) (cause : DropCause) (a : Nat) : Bool :=
  e.isOpen && e.cause == cause && e.finish + 1 == a

/-- A dropped report with a cause, no held overrun in force (R42, R43): merge, append, or begin a held overrun. -/
def GapList.dropped (cause : DropCause) (a k : Nat) (g : GapList) : GapList :=
  if (g.entries.getLast?.any fun e => e.continues cause a) = true then
    { g with entries := mapLast (GapEntry.grow k) g.entries, active := true }
  else if g.entries.length < Config.gapEntries then
    { g with
      entries := g.closeNewest.entries ++ [{ first := a, count := k, cause := cause, isOpen := true }]
      active := true }
  else
    { g with
      entries := mapLast (fun e => { e with isOpen := true, heldPart := some { first := a, count := k } }) g.entries
      active := true
      overrun := true }

/-- A dropped report with no cause, from step 1 of R10: the held part of the newest entry grows (R44). -/
def GapList.droppedHeld (k : Nat) (g : GapList) : GapList :=
  { g with entries := mapLast (GapEntry.grow k) g.entries, active := true }

/-- The run end at the Gap List (R45). -/
def GapList.runEnd (g : GapList) : GapList := { g.closeNewest with overrun := false, active := false }

/-- A GAP frame of `k` indices consumes the front of the head entry (R47). -/
def GapList.consume (k : Nat) (g : GapList) : GapList :=
  match g.entries with
  | [] => g
  | e :: rest =>
    if k < e.count then { g with entries := { e with first := e.first + k, count := e.count - k } :: rest }
    else
      match e.heldPart with
      | some h =>
        { g with entries := { e with first := h.first, count := h.count, heldFlag := true, heldPart := none } :: rest }
      | none => { g with entries := rest }

/-! ### The decision (R10) -/

/-- What the steps of R10 decide. -/
inductive Decision where
  | held
  | drop (cause : DropCause)
  | stage
deriving DecidableEq, Repr

/-- The first step of R10 whose condition holds. -/
def decideBlock (s : State) : Decision :=
  if s.gaps.overrun = true ∧ Config.gapEntries ≤ s.gaps.entries.length then .held
  else if s.intake.laneMark then .drop .lane
  else if s.memory.thermal = .overtemp then .drop .thermal
  else if s.capacity ≤ s.held then .drop .ringFull
  else if Config.stagingPlaces ≤ s.memory.staging.length then .drop .portBusy
  else .stage

/-- The number of the block that completes when the intake point is `point` (R6, R15). -/
def blockNumberAt (point : Nat) : Nat := (point - 1) / Config.blockSamples

/-- The fill count of the block that completes when the intake point is `point`: 512 on a block boundary (R8, R15). -/
def blockFillAt (point : Nat) : Nat := (point - 1) % Config.blockSamples + 1

/-- The Gap List receives a decision (R41 to R44): past step 1, a held overrun in force ends first. -/
def GapList.decided (d : Decision) (a k : Nat) (g : GapList) : GapList :=
  match d with
  | .held => g.droppedHeld k
  | .drop cause => GapList.dropped cause a k { g with overrun := false }
  | .stage => GapList.staged { g with overrun := false }

/-- A dropped block: its samples are discarded and counted (R13). -/
def countDropped (k : Nat) (s : State) : State :=
  { s with counters := { s.counters with gapSamples := satAdd Config.counter48 s.counters.gapSamples k } }

/-- A staged block joins the tail of the Staging Buffer, is counted, and waits for the port (R12, R22, R27). -/
def stageBlock (b : Block) (s : State) : State :=
  grantPort
    { s with
      memory := { s.memory with staging := s.memory.staging ++ [b] }
      counters := { s.counters with staged := satAdd Config.counter32 s.counters.staged 1 } }

/-- The block completes and is decided once (R9 to R13); the conditions it begins and ends are reported (R49). -/
def completeBlock (s : State) : State :=
  let number := blockNumberAt s.intake.point
  let fill := blockFillAt s.intake.point
  let d := decideBlock s
  let s₁ : State :=
    { s with
      gaps := s.gaps.decided d (Config.blockSamples * number) fill
      intake := { s.intake with filling := [], laneMark := false } }
  report s
    (match d with
    | .held => countDropped fill s₁
    | .drop _ => countDropped fill s₁
    | .stage => stageBlock { number := number, fill := fill, samples := s.intake.filling } s₁)

end Sys2Proof.Machine
end

