-- ==== Sys2Proof/Machine/Segments.lean ====
section
/-! DEFINITION. The Boundary Queue and the Segment Table (R68 to R88). -/

namespace Sys2Proof.Machine

/-- The limit a request is judged against: the intake point in RUN, the intake end otherwise (R72). -/
def State.limit (s : State) : Nat :=
  if s.station.phase = .run then s.intake.point else s.intake.ending.getD s.intake.point

/-- A request is absorbed: charged to the newest live segment, counted, and flagged unless coincident (R70, R88). -/
def absorbRequest (coincident : Bool) (s : State) : State :=
  let s₁ : State :=
    { s with
      table :=
        { s.table with
          live := mapLast (fun g => { g with absorbed := satAdd Config.counter16 g.absorbed 1 }) s.table.live }
      counters := { s.counters with absorbed := satAdd Config.counter32 s.counters.absorbed 1 } }
  if coincident then s₁ else s₁.setFlag .markerAbsorbed

/-- What a consideration makes of the head request (R72). -/
inductive Judgement where
  | absorbed (coincident : Bool)
  | waiting
  | applied (start : Nat)
deriving DecidableEq, Repr

/-- The clamped index m′ of a requested index (R72). -/
def clampedIndex (lastStart drain m : Nat) : Nat := max m (max lastStart drain)

/-- Judge a request: the first outcome of R72 that applies. -/
def judgeRequest (s : State) (r : Request) : Judgement :=
  match s.table.live.getLast? with
  | none => .absorbed false
  | some last =>
    let m' := clampedIndex last.start s.assembler.drain r.index
    if m' = last.start then .absorbed true
    else if s.limit ≤ m' then (if s.station.phase = .run then .waiting else .absorbed false)
    else if Config.liveSegments ≤ s.table.live.length then .absorbed false
    else .applied m'

/-- The entry a request opens at m′ (R73, R74). -/
def openedSegment (r : Request) (start : Nat) (ending : Option Nat) : Segment where
  origin := r.origin
  seq := r.seq
  cause := .boundary r.cause
  start := start
  ending := ending
  requested := if start = r.index then none else some r.index

/-- Apply a request at m′: the last segment ends at m′ - 1 and a new one begins, OPEN in RUN (R73), CLOSED with end
intake end - 1 otherwise (R74). A clamped one is counted and flagged. -/
def applyRequest (r : Request) (start : Nat) (s : State) : State :=
  let s₁ : State :=
    { s with
      table :=
        { s.table with
          live :=
            mapLast (fun g => { g with ending := some (start - 1) }) s.table.live ++
              [openedSegment r start (if s.station.phase = .run then none else some (s.limit - 1))] } }
  if start = r.index then s₁
  else
    State.setFlag
      { s₁ with counters := { s₁.counters with clamped := satAdd Config.counter32 s₁.counters.clamped 1 } }
      .boundaryClamped

/-- Consider the requests of a queue from its head until one waits or none is left (R71). -/
def considerRequests : List Request → State → State
  | [], s => { s with table := { s.table with queue := [] } }
  | r :: rest, s =>
    match judgeRequest s r with
    | .waiting => { s with table := { s.table with queue := r :: rest } }
    | .absorbed coincident => considerRequests rest (absorbRequest coincident s)
    | .applied start => considerRequests rest (applyRequest r start s)

/-- The Segment Table considers its head request (R71). -/
def considerHead (s : State) : State := considerRequests s.table.queue s

/-- Place a request after every queued request whose index is at most its own (R69, insert). -/
def insertRequest (r : Request) : List Request → List Request
  | [] => [r]
  | q :: rest => if q.index ≤ r.index then q :: insertRequest r rest else r :: q :: rest

/-- The request's identity is that of a queued request or of a live segment (R69, duplicate). -/
def State.isDuplicate (s : State) (r : Request) : Bool :=
  (s.table.queue.any fun q => q.origin == r.origin && q.seq == r.seq) ||
  s.table.live.any fun g => g.origin == r.origin && g.seq == r.seq

/-- The request would stand at the front of the queue (R69). -/
def State.frontOfQueue (s : State) (r : Request) : Bool :=
  match s.table.queue with
  | [] => true
  | q :: _ => decide (r.index < q.index)

/-- A request reaches the Boundary Queue (R69). -/
def arriveRequest (r : Request) (s : State) : State :=
  if s.isDuplicate r then s
  else if Config.boundaryPlaces ≤ s.table.queue.length then absorbRequest false s
  else
    let s₁ : State := { s with table := { s.table with queue := insertRequest r s.table.queue } }
    if s.frontOfQueue r then considerHead s₁ else s₁

/-- The run end at the Segment Table (R81): the OPEN segment ends at intake end - 1, then the head request is considered
against the intake end. -/
def segmentRunEnd (s : State) : State :=
  considerHead
    { s with
      table :=
        { s.table with
          live :=
            mapLast (fun g => if g.ending.isNone then { g with ending := some (s.limit - 1) } else g) s.table.live } }

/-- The table at a run start: the queue empty and position 1 OPEN as the run's first segment (R80). -/
def runStartTable : SegmentTable where
  queue := []
  head := 1
  live := [{ origin := 0, seq := 0, cause := .runStart, start := 0 }]

end Sys2Proof.Machine
end

