-- ==== Sys2Proof/Machine/Frames.lean ====
section
/-! DEFINITION. Frame assembly: reduction, span selection, the choice of the next frame, placements, completion,
truncation, and what follows a command at the same event (R89 to R116, R166). -/

namespace Sys2Proof.Machine

/-! ### Reduction and payload (R102, R104 to R106, R184) -/

/-- The group size G of a level from 1 to 4 (R102). -/
def groupSize (level : Level) : Nat := 2 ^ (level.val + 1)

/-- The groups a span from `a` to `last` touches (R102, R104). -/
def pairCount (level : Level) (a last : Nat) : Nat := last / groupSize level - a / groupSize level + 1

/-- The payload bytes of a span from `a` to `last` (R102). -/
def payloadBytes (channels : Nat) (level : Level) (a last : Nat) : Nat :=
  if level.val = 0 then (2 * channels * (last + 1 - a) + 3) / 4 * 4 else 4 * channels * pairCount level a last

/-- The lesser of two samples as signed numbers (R105). -/
def sampleMin (x y : Sample) : Sample := if x.toInt ≤ y.toInt then x else y

/-- The greater of two samples as signed numbers (R105). -/
def sampleMax (x y : Sample) : Sample := if x.toInt ≤ y.toInt then y else x

/-- The (min, max) pair so far with one more sample (R105). -/
def widenPair (pair : Option (Sample × Sample)) (x : Sample) : Sample × Sample :=
  match pair with
  | none => (x, x)
  | some (lo, hi) => (sampleMin lo x, sampleMax hi x)

/-- The pairs of consecutive samples, minimum then maximum of each group in turn: `left` samples remain to the end of the
group begun, whose pair so far is `pair` (R104, R105). -/
def reduceSamples (size : Nat) : Nat → Option (Sample × Sample) → List Sample → List Sample
  | _, none, [] => []
  | _, some (lo, hi), [] => [lo, hi]
  | left, pair, x :: rest =>
    if left ≤ 1 then (widenPair pair x).1 :: (widenPair pair x).2 :: reduceSamples size size none rest
    else reduceSamples size (left - 1) (some (widenPair pair x)) rest

/-- A channel's samples of a block whose indices lie from `lo` to `hi` (R107). -/
def clipSamples (b : Block) (lo hi : Nat) (channel : List Sample) : List Sample :=
  (channel.drop (lo - Config.blockSamples * b.number)).take (hi + 1 - lo)

/-- What the assembler takes from one channel of a block it has read: the samples within the span at level 0, their pairs
above (R107). -/
def gatherChannel (w : WorkingCopy) (b : Block) (channel : List Sample) : List Sample :=
  let lo := max w.first (Config.blockSamples * b.number)
  let hi := min w.last b.lastSample
  if w.level.val = 0 then clipSamples b lo hi channel
  else reduceSamples (groupSize w.level) (groupSize w.level - lo % groupSize w.level) none (clipSamples b lo hi channel)

/-- The working copy with a block's content gathered (R107). -/
def gatherBlock (w : WorkingCopy) (b : Block) : WorkingCopy :=
  { w with gathered := List.zipWith (fun old channel => old ++ gatherChannel w b channel) w.gathered b.samples }

/-- Zero bytes up to a multiple of 4 (R102). -/
def padded (bytes : List Byte) : List Byte := bytes ++ zeros ((4 - bytes.length % 4) % 4)

/-- The payload: channel 0's content, then channel 1's, and so on, each word little-endian (R106, R184). -/
def payloadOf (gathered : List (List Sample)) : List Byte :=
  padded (gathered.flatMap fun channel => channel.flatMap fun x => leBytes 2 x.toNat)

/-! ### Span selection (R98, R99, R101) -/

/-- Stored samples lie at the drain point (R98). -/
def State.storedAtDrain (s : State) : Bool :=
  match s.drainBlock with
  | some b =>
    decide (Config.blockSamples * b.number ≤ s.assembler.drain) && decide (s.assembler.drain ≤ b.lastSample)
  | none => false

/-- The first index of the Gap List head entry when it lies above the drain point (R46, R98). -/
def State.gapAbove (s : State) : Option Nat :=
  match s.gaps.entries with
  | e :: _ => if s.assembler.drain < e.first then some e.first else none
  | [] => none

/-- The lesser of a bound and an optional bound. -/
def boundedBy (limit : Nat) : Option Nat → Nat
  | some bound => min limit bound
  | none => limit

/-- The data limit: the earliest of the last stored sample, the head segment's end and the sample before the Gap List
head entry above the drain point (R98). -/
def dataLimit (s : State) (head : Segment) (newest : Block) : Nat :=
  boundedBy (boundedBy newest.lastSample head.ending) (s.gapAbove.map (· - 1))

/-- The end of the capture block that holds an index (R101). -/
def blockEnd (index : Nat) : Nat := Config.blockSamples * (index / Config.blockSamples) + (Config.blockSamples - 1)

/-- From one end candidate, step to the next while it still fits the payload size, at most `fuel` steps (R101). -/
def extendSpan (channels payload : Nat) (level : Level) (a limit : Nat) : Nat → Nat → Nat
  | 0, last => last
  | fuel + 1, last =>
    if last < limit ∧ payloadBytes channels level a (min (last + Config.blockSamples) limit) ≤ payload then
      extendSpan channels payload level a limit fuel (min (last + Config.blockSamples) limit)
    else last

/-- The most blocks a span can be extended by: 16,384 bytes at level 4 with one channel hold 256 blocks (R101). -/
def spanSteps : Nat := 256

/-- The end of the span chosen: the largest end candidate whose payload fits (R101). -/
def spanEnd (channels payload : Nat) (level : Level) (a limit : Nat) : Nat :=
  extendSpan channels payload level a limit spanSteps (min (blockEnd a) limit)

/-- The span chosen cannot be extended by another capture block within the payload (R99, full). -/
def spanFull (channels payload : Nat) (level : Level) (a last : Nat) : Bool :=
  decide (payload < payloadBytes channels level a (last + Config.blockSamples))

/-! ### The choice of the next frame (R93 to R96, R99) -/

/-- The end of the DATA span that may start now, if one may (R94, R98, R99). -/
def dataSpan (s : State) (head : Segment) : Option Nat :=
  match s.newestBlock with
  | none => none
  | some newest =>
    let a := s.assembler.drain
    let last := spanEnd s.channels s.payloadSize s.presence.effective a (dataLimit s head newest)
    if s.storedAtDrain = true ∧ boundedBy a head.ending = a ∧
        (spanFull s.channels s.payloadSize s.presence.effective a last = true ∨ head.ending.isSome = true ∨
          s.gapAbove = some (last + 1) ∨ s.assembler.flushTimer = .expired) then
      some last
    else none

/-- A frame that is due. -/
inductive DueFrame where
  | trailer (head : Segment)
  | gap (head : Segment) (entry : GapEntry)
  | data (head : Segment) (last : Nat)
deriving DecidableEq, Repr

/-- The Gap List head entry, when a GAP frame of it is eligible (R94, R96). -/
def eligibleGap (s : State) (head : Segment) : Option GapEntry :=
  match s.gaps.entries with
  | [] => none
  | e :: _ =>
    if e.first = s.assembler.drain ∧
        (e.settled = true ∨ (head.ending.any fun last => decide (last ≤ e.frontEnd)) = true ∨
          s.assembler.flushTimer = .expired) then
      some e
    else none

/-- The head segment's TRAILER is eligible: it is CLOSED and the drain point is past its end (R94). -/
def trailerDue (s : State) (head : Segment) : Bool := head.ending.any fun last => decide (last < s.assembler.drain)

/-- A consideration: the first frame of R94 that is eligible, when the assembler is IDLE, a segment is live and the frame
part holds fewer than 4 frames (R93). -/
def chooseFrame (s : State) : Option DueFrame :=
  match s.table.live with
  | [] => none
  | head :: _ =>
    if s.assembler.phase = .idle ∧ s.spine.frames.length < Config.frameSlots then
      if trailerDue s head then some (.trailer head)
      else
        match eligibleGap s head with
        | some e => some (.gap head e)
        | none => (dataSpan s head).map (.data head)
    else none

/-! ### Placement (R91, R92, R95, R97, R108, R112) -/

/-- Place a frame: it takes the next frame sequence, joins the frame part, and the flush-age timer restarts
(R91, R92, R122). -/
def placeFrame (segOrigin : Byte) (segSeq : BitVec 16) (body : FrameBody) (s : State) : State :=
  joinFrame
    { origin := s.unitOrigin, seq := s.assembler.frameSeq, segOrigin := segOrigin, segSeq := segSeq, body := body }
    { s with assembler := { s.assembler with frameSeq := s.assembler.frameSeq + 1, flushTimer := .running } }

/-- Change the head segment's entry. -/
def onHeadSegment (f : Segment → Segment) (s : State) : State :=
  { s with table := { s.table with live := mapHead f s.table.live } }

/-- The counts of a segment after a GAP frame of `k` indices (R83). -/
def Segment.countGap (k : Nat) (g : Segment) : Segment :=
  { g with gapFrames := satAdd Config.counter32 g.gapFrames 1, gapSamples := g.gapSamples + k }

/-- A level range widened by a level (R83). -/
def widenLevels (levels : Option LevelRange) (level : Level) : LevelRange :=
  match levels with
  | none => { lowest := level, highest := level }
  | some r => { lowest := min r.lowest level, highest := max r.highest level }

/-- The counts of a segment after a DATA frame at a level (R83, R110). -/
def Segment.countData (level : Level) (g : Segment) : Segment :=
  { g with
    dataFrames := satAdd Config.counter32 g.dataFrames 1
    levels := some (widenLevels g.levels level) }

/-- A segment's TRAILER fields (R95). -/
def trailerBody (g : Segment) : FrameBody :=
  .trailer g.start (g.ending.getD 0) g.requested g.dataFrames g.gapFrames g.gapSamples g.levels g.absorbed

/-- Retire the head segment: its entry becomes FREE and the head position advances, from 63 to 1 (R79, R84). -/
def retireHead (s : State) : State :=
  { s with table := { s.table with live := s.table.live.tail, head := positionOf s.table.head 1 } }

/-- Place the head segment's TRAILER and retire it (R95, R84). -/
def placeTrailer (head : Segment) (s : State) : State :=
  retireHead (placeFrame head.origin head.seq (trailerBody head) s)

/-- The count of a GAP frame: from the drain point to the earlier of the front range's end and the head segment's end
(R96). The range is read as it stands when the frame is placed, a drop that merged before it at the same event included
(R47, R100); row 2 of R48, report first, would leave such a drop in the list (DESIGN CHOICE, log 32). -/
def gapSpan (head : Segment) (e : GapEntry) : Nat := boundedBy e.frontEnd head.ending + 1 - e.first

/-- Place a GAP frame: the Gap List consumes, the drain point advances, the segment counts, and the Segment Table
considers its head request (R97). -/
def placeGap (head : Segment) (e : GapEntry) (s : State) : State :=
  let k := gapSpan head e
  let s₁ := placeFrame head.origin head.seq (.gap e.first k (.drop e.cause) e.heldFlag) s
  considerHead
    (onHeadSegment (Segment.countGap k)
      { s₁ with
        gaps := s₁.gaps.consume k
        assembler := { s₁.assembler with drain := s₁.assembler.drain + k } })

/-- Start a DATA frame with a span to `last`: the working copy is fixed, the drain point advances past the span, the
first block is requested, and the Segment Table considers its head request (R103, R107). -/
def startData (head : Segment) (last : Nat) (s : State) : State :=
  let a := s.assembler.drain
  considerHead
    (grantPort
      { s with
        memory := { s.memory with readRequest := some (a / Config.blockSamples) }
        assembler :=
          { s.assembler with
            drain := last + 1
            phase :=
              .assembling
                { first := a
                  last := last
                  level := s.presence.effective
                  origin := head.origin
                  seq := head.seq
                  position := s.table.head
                  next := a / Config.blockSamples
                  gathered := List.replicate s.channels [] } } })

/-- Place the pending MEMORY gap frame, when the assembler is PENDING and a frame slot is free (R112). -/
def placeMemoryGap (s : State) : State :=
  match s.assembler.phase with
  | .pending g =>
    if s.spine.frames.length < Config.frameSlots then
      let s₁ := placeFrame g.origin g.seq (.gap g.first g.count .memory false) s
      onHeadSegment (Segment.countGap g.count) { s₁ with assembler := { s₁.assembler with phase := .idle } }
    else s
  | .idle => s
  | .assembling _ => s

/-! ### Completion and truncation (R108 to R113) -/

/-- The DATA fields of a working copy's span (R103, R104, R106). -/
def dataBody (channels : Nat) (w : WorkingCopy) : FrameBody :=
  .data w.first (w.last + 1 - w.first) w.level channels
    (if w.level.val = 0 then 0 else w.first % groupSize w.level)
    (if w.level.val = 0 then 0 else pairCount w.level w.first w.last) (payloadOf w.gathered)

/-- Complete the DATA frame of a working copy: it is placed, the blocks whose last samples it covers are released, and the
segment counts (R108 to R110). -/
def completeData (w : WorkingCopy) (s : State) : State :=
  onHeadSegment (Segment.countData w.level)
    (releaseThrough w.last (w.last / Config.blockSamples - w.first / Config.blockSamples + 1)
      (placeFrame w.origin w.seq (dataBody s.channels w) s))

/-- The assembler's part of a read completion without an uncorrectable report: gather, then request the next block or
complete (R107, R108). -/
def takeBlock (w : WorkingCopy) (b : Block) (s : State) : State :=
  let w' := gatherBlock w b
  if w.next < w.last / Config.blockSamples then
    { s with
      memory := { s.memory with readRequest := some (w.next + 1) }
      assembler := { s.assembler with phase := .assembling { w' with next := w.next + 1 } } }
  else
    completeData w' { s with assembler := { s.assembler with phase := .idle } }

/-- The assembler's part of an uncorrectable report for a block: the frame is cut short before it, its samples in the
span become the pending MEMORY gap, the drain point is set back, and the Segment Table considers its head request
(R111, R112). -/
def truncateFrame (w : WorkingCopy) (b : Block) (s : State) : State :=
  let u := max w.first (Config.blockSamples * b.number)
  let v := min w.last b.lastSample
  let s₁ := if w.first < u then completeData { w with last := u - 1 } s else s
  let s₂ := if v = b.lastSample then releaseBlock s₁ else s₁
  considerHead
    { s₂ with
      assembler :=
        { s₂.assembler with
          drain := v + 1
          phase := .pending { first := u, count := v - u + 1, origin := w.origin, seq := w.seq } } }

/-! ### What follows at the same event (R93, R112, R166) -/

/-- Place the frame that is due, or start it (R94). -/
def takeDueFrame (due : DueFrame) (s : State) : State :=
  match due with
  | .trailer head => placeTrailer head s
  | .gap head e => placeGap head e s
  | .data head last => startData head last s

/-- The chain of considerations at one event: until a DATA frame starts, nothing is eligible, no segment is live or the
frame part is full. Each link places a frame, so the frame slots bound the chain (R93). -/
def considerFrames : Nat → State → State
  | 0, s => s
  | fuel + 1, s =>
    match chooseFrame s with
    | none => s
    | some due => considerFrames fuel (takeDueFrame due s)

/-- The six facts of R165 hold together. -/
def State.flushed (s : State) : Bool :=
  decide (s.held = 0) && s.gaps.entries.isEmpty && s.table.queue.isEmpty && s.table.live.isEmpty &&
  decide (s.assembler.phase = .idle) && s.spine.frames.isEmpty

/-- The flush completion (R166): in FLUSH with all six facts the station enters DONE, where its run tag is the start
count, and the flush-age timer is stopped. -/
def completeFlush (s : State) : State :=
  if s.station.phase = .flush ∧ s.flushed = true then
    { s with
      station := { s.station with phase := .done }
      assembler := { s.assembler with flushTimer := .stopped } }
  else s

/-- What follows a change at the same event: the pending MEMORY gap, the chain of considerations, the flush
completion. -/
def settle (s : State) : State := completeFlush (considerFrames Config.frameSlots (placeMemoryGap s))

/-- What the choice of a frame and the flush completion depend on (R93, R165). -/
structure DrainView where
  idle : Bool
  pending : Bool
  stationPhase : StationPhase
  frames : Nat
  live : Nat
  headStart : Option Nat
  headEnd : Option Nat
  gaps : Nat
  gapHead : Option GapEntry
  stored : Nat
  staged : Nat
  newest : Option (Nat × Nat)
  drain : Nat
  effective : Level
  expired : Bool
  queue : Nat
deriving DecidableEq, Repr

/-- What the choice of a frame and the flush completion depend on, as it stands. -/
def State.drainView (s : State) : DrainView where
  idle := decide (s.assembler.phase = .idle)
  pending :=
    match s.assembler.phase with
    | .pending _ => true
    | .idle => false
    | .assembling _ => false
  stationPhase := s.station.phase
  frames := s.spine.frames.length
  live := s.table.live.length
  headStart := s.table.live.head?.map Segment.start
  headEnd := s.table.live.head?.bind Segment.ending
  gaps := s.gaps.entries.length
  gapHead := s.gaps.entries.head?
  stored := s.memory.storedCount
  staged := s.memory.staging.length
  newest := s.newestBlock.map fun b => (b.number, b.fill)
  drain := s.assembler.drain
  effective := s.presence.effective
  expired := decide (s.assembler.flushTimer = .expired)
  queue := s.table.queue.length

/-- A frame start and the flush completion are considered at an event that changes something they depend on
(R93, R166). -/
def settleFrom (before after : State) : State := if before.drainView = after.drainView then after else settle after

/-! ### Events -/

/-- The outcome of a command that cannot touch what a frame start or the flush completion depends on: nothing while
RESET# is asserted (R169); else `after`, with the conditions that changed reported (R175). -/
def event (before after : State) : Host.Outcome State Fault Refusal :=
  .next (if before.resetHeld then before else report before after)

/-- The outcome of a command that may: what follows at the same event is settled first. -/
def drainEvent (before after : State) : Host.Outcome State Fault Refusal :=
  event before (settleFrom before after)

end Sys2Proof.Machine
end

