-- ==== Sys2Proof/Machine/Runs.lean ====
section
/-! DEFINITION. The station as a whole: resets, the acceptance of a configuration, run start, run end, STOP
(R15, R16, R18, R31, R36, R160 to R169), and the meanings of the chassis line, reset and flush commands. -/

namespace Sys2Proof.Machine

/-! ### Power-on and RESET# (R37, R67, R87, R116, R138, R157, R169, R181) -/

/-- Every block at its power-on values. What does not belong to the reset stays: the lane alignment pins, the device
number and the queue of waiting commands (log 11, 12). -/
def freshStation (s : State) : State :=
  { State.reset with
    intake := { State.reset.intake with laneOut := s.intake.laneOut }
    station := { State.reset.station with deviceNumber := s.station.deviceNumber }
    pending := s.pending }

/-- RESET# is asserted: the station at its power-on values with no flag set, both ports stopped, ALERT# released
(R138, R169, R180; POR is set at the release, R181). -/
def heldInReset (s : State) : State :=
  { freshStation s with faults := { State.reset.faults with flags := 0 }, resetHeld := true }

/-! ### SOFT RESET (R18, R36, R51, R67, R87, R116, R139, R157, R168, R177) -/

/-- The memory controller's part: emptied, owed 0, the timer stopped; an operation in progress runs on without effect,
and self-refresh waits for it (R36). -/
def CaptureMemory.softReset (m : CaptureMemory) : CaptureMemory :=
  { m with
    dram := []
    writeSlot := 0
    drainSlot := 0
    storedCount := 0
    staging := []
    op := m.op.map fun u => { u with stale := true }
    readRequest := none
    owed := 0
    refreshTimer := none
    selfRefresh := m.op.isNone }

/-- The Emit Queue's part: emptied but for a frame whose insertion has begun; the hold set holds NOT_JOINED alone; the
transit path is untouched (R139). -/
def Spine.softReset (p : Spine) : Spine :=
  { p with
    notes := []
    frames := if p.port = .insertingFrame then p.frames.take 1 else []
    hold := {} }

/-- The state after SOFT RESET (R168). -/
def softResetStation (s : State) : State :=
  { s with
    intake := { exhausted := s.intake.exhausted, laneOut := s.intake.laneOut }
    memory := s.memory.softReset
    gaps := {}
    markers := {}
    table := {}
    assembler := {}
    spine := s.spine.softReset
    presence := {}
    station := { s.station with phase := .unconfigured, config := none }
    faults := { s.faults with mode := .latched } }

/-! ### The acceptance of a configuration (R160) -/

/-- A configuration is accepted: the station enters JOINING, the incarnation advances, the DRAM leaves self-refresh with
owed 0 and the refresh timer started, the pace tick runs, the fault mode is the record's (R31, R140, R160, R177). -/
def acceptConfiguration (c : Configuration) (s : State) : State :=
  arbitrate
    (grantPort
      { s with
        station :=
          { s.station with phase := .joining, config := some c, incarnation := s.station.incarnation + 1 }
        memory :=
          { s.memory with
            selfRefresh := false
            owed := 0
            refreshTimer := some (refreshInterval s.memory.thermal) }
        markers := { s.markers with lines := ⟨{}, {}, {}, {}⟩ }
        presence := { s.presence with ticking := true, returnCounter := 0, joined := false }
        spine := { s.spine with hold := { s.spine.hold with notJoined := true } }
        faults := { s.faults with mode := c.faultMode } })

/-! ### Run start (R5, R38, R51, R55, R64, R80, R114, R162) -/

/-- The lines at a run start: enabled lines ARMED with latches cleared, the others OFF (R55). -/
def armedLines (s : State) : PerLine MarkerLine :=
  PerLine.tabulate fun line => if (s.enabledSetup line).isSome then { phase := .armed } else {}

/-- A run begins (R162). -/
def beginRun (s : State) : State :=
  { s with
    station := { s.station with phase := .run, capturedTag := s.station.startCount }
    intake := { phase := .taking, laneOut := s.intake.laneOut }
    memory := { s.memory with writeSlot := 0, drainSlot := 0 }
    gaps := {}
    markers := { s.markers with lines := armedLines s, nextSeq := 1, lastSeq := 0 }
    table := runStartTable
    assembler := { drain := 0, phase := s.assembler.phase, frameSeq := 0, flushTimer := .running } }

/-- An edge on START: the start count rises, and a run begins in JOINING, READY and DONE; in the other states the edge is
missed (R161 to R163). -/
def takeStart (s : State) : State :=
  let s₁ : State := { s with station := { s.station with startCount := s.station.startCount + 1 } }
  match s.station.phase with
  | .joining => beginRun s₁
  | .ready => beginRun s₁
  | .done => beginRun s₁
  | .unconfigured => s₁.setFlag .startMissed
  | .run => s₁.setFlag .startMissed
  | .flush => s₁.setFlag .startMissed

/-! ### Run end (R15, R16, R45, R58, R81, R164) -/

/-- A line at the run end: OFF, its latch kept, a qualification or an inactive hold dropped (R55, R58). -/
def MarkerLine.runEnd (l : MarkerLine) : MarkerLine := { phase := .off, latch := l.latch }

/-- The lines at a run end. -/
def linesRunEnd (lines : PerLine MarkerLine) : PerLine MarkerLine :=
  ⟨lines.mk0.runEnd, lines.mk1.runEnd, lines.mk2.runEnd, lines.mk3.runEnd⟩

/-- The run ends: a partial last block is decided, the intake end is the intake point, the station enters FLUSH, the Gap
List and the Marker Unit close out the run, then the Segment Table does (R164). -/
def endRun (s : State) : State :=
  let s₁ := if s.intake.point % Config.blockSamples = 0 then s else completeBlock s
  segmentRunEnd
    { s₁ with
      intake :=
        { s₁.intake with phase := .ended, ending := some s₁.intake.point, filling := [], laneMark := false,
                         stopHeld := false }
      gaps := s₁.gaps.runEnd
      markers := { s₁.markers with lines := linesRunEnd s₁.markers.lines }
      station := { s₁.station with phase := .flush } }

/-- A STOP taken in RUN: held while the intake point is 0, else the run ends (R15, R164). -/
def takeStop (s : State) : State :=
  if s.intake.point = 0 then { s with intake := { s.intake with stopHeld := true } } else endRun s

/-! ### Meanings -/

/-- POWER_ON (R169): every block at its power-on values, POR set, the straps sampled (R118, R181). -/
def execPowerOn (straps : BitVec 4) (s : State) : Host.Outcome State Fault Refusal :=
  .next (sampleStraps straps (freshStation s))

/-- RESET_ASSERT (R138, R169). -/
def execResetAssert (s : State) : Host.Outcome State Fault Refusal := .next (heldInReset s)

/-- RESET_RELEASE (R169): every block at its power-on values, POR set, the straps sampled (R118, R181). -/
def execResetRelease (straps : BitVec 4) (s : State) : Host.Outcome State Fault Refusal :=
  .next (sampleStraps straps (freshStation s))

/-- START_EDGE (R161 to R163). -/
def execStartEdge (s : State) : Host.Outcome State Fault Refusal := event s (takeStart s)

/-- STOP_EDGE (R164): no effect outside RUN. -/
def execStopEdge (s : State) : Host.Outcome State Fault Refusal :=
  drainEvent s (if s.station.phase = .run then takeStop s else s)

/-- FLUSH_COMPLETE (R166): the judgement of the flush completion, which the commands that bring it also make. -/
def execFlushComplete (s : State) : Host.Outcome State Fault Refusal := drainEvent s (completeFlush s)

end Sys2Proof.Machine
end

