-- ==== Sys2Proof/Machine/AssemblerEvents.lean ====
section
/-! DEFINITION. The Frame Assembler's own commands: the placement of a TRAILER, of a GAP frame, of a MEMORY gap, the start
of a DATA frame, and the flush-age timer (R91 to R112). Each judges again what the commands that bring it about also
judge at the same event (log 3). -/

namespace Sys2Proof.Machine

/-- The frame that is due is a TRAILER. -/
def DueFrame.isTrailer : DueFrame → Bool
  | .trailer _ => true
  | .gap _ _ => false
  | .data _ _ => false

/-- The frame that is due is a GAP frame. -/
def DueFrame.isGap : DueFrame → Bool
  | .gap _ _ => true
  | .trailer _ => false
  | .data _ _ => false

/-- The frame that is due is a DATA frame. -/
def DueFrame.isData : DueFrame → Bool
  | .data _ _ => true
  | .trailer _ => false
  | .gap _ _ => false

/-- Place or start the frame that is due, when it is of the kind commanded (R94). -/
def takeIfDue (kind : DueFrame → Bool) (s : State) : State :=
  match chooseFrame s with
  | some due => if kind due then takeDueFrame due s else s
  | none => s

/-- The flush-age timer expires: it stands expired until a frame is placed (R91). -/
def flushAgeExpired (s : State) : State :=
  if s.assembler.flushTimer = .running then { s with assembler := { s.assembler with flushTimer := .expired } } else s

/-! ### Meanings -/

/-- TRAILER_PLACE (R95). -/
def execTrailerPlace (s : State) : Host.Outcome State Fault Refusal := drainEvent s (takeIfDue DueFrame.isTrailer s)

/-- GAP_FRAME_PLACE (R97). -/
def execGapFramePlace (s : State) : Host.Outcome State Fault Refusal := drainEvent s (takeIfDue DueFrame.isGap s)

/-- DATA_FRAME_START (R103). -/
def execDataFrameStart (s : State) : Host.Outcome State Fault Refusal := drainEvent s (takeIfDue DueFrame.isData s)

/-- MEMORY_GAP_PLACE (R112). -/
def execMemoryGapPlace (s : State) : Host.Outcome State Fault Refusal := drainEvent s (placeMemoryGap s)

/-- FLUSH_AGE_EXPIRY (R91). -/
def execFlushAgeExpiry (s : State) : Host.Outcome State Fault Refusal := drainEvent s (flushAgeExpired s)

end Sys2Proof.Machine
end

