-- ==== Sys2Proof/Machine/IntakeEvents.lean ====
section
/-! DEFINITION. The lanes: taking a sample set and the alignment status (R1 to R7, R15, R16). -/

namespace Sys2Proof.Machine

/-- The samples of the enabled channels of one sample set; lanes n to 7 are disregarded (R1). -/
def State.sampleSet (s : State) (lanes : Vector Sample 8) : List Sample := lanes.toList.take s.channels

/-- The samples join the block being filled; the set at position 0 begins a new block (R6). -/
def fillBlock (starts : Bool) (filling : List (List Sample)) (set : List Sample) : List (List Sample) :=
  if starts then set.map fun x => [x] else List.zipWith (fun channel x => channel ++ [x]) filling set

/-- The sample set is written into the block being filled, the lane-fault mark follows, and the intake point advances
(R3, R6). -/
def writeSample (lanes : Vector Sample 8) (s : State) : State :=
  let starts := decide (s.intake.point % Config.blockSamples = 0)
  { s with
    intake :=
      { s.intake with
        filling := fillBlock starts s.intake.filling (s.sampleSet lanes)
        laneMark := (!starts && s.intake.laneMark) || s.laneFault
        point := s.intake.point + 1 } }

/-- A sample set is taken: it is written, a full block completes, and the Segment Table considers its head request at the
advance (R6, R7, R9). -/
def advanceIntake (lanes : Vector Sample 8) (s : State) : State :=
  let s₁ := writeSample lanes s
  considerHead (if s₁.intake.point % Config.blockSamples = 0 then completeBlock s₁ else s₁)

/-- What a sample set taken may end: the run, by index exhaustion (R16) or by a held STOP (R15). -/
def takeSampleSet (lanes : Vector Sample 8) (s : State) : State :=
  let s₁ := advanceIntake lanes s
  if s₁.intake.point = Config.indexLimit then
    let s₂ := endRun s₁
    { s₂ with intake := { s₂.intake with exhausted := true } }
  else if s₁.intake.stopHeld then endRun s₁
  else s₁

/-- A lane's alignment status changes (R1, R2). -/
def setLane (lane : Fin 8) (out : Bool) (s : State) : State :=
  { s with
    intake :=
      { s.intake with
        laneOut :=
          if out then s.intake.laneOut ||| BitVec.ofNat 8 (2 ^ lane.val)
          else s.intake.laneOut &&& ~~~(BitVec.ofNat 8 (2 ^ lane.val)) } }

/-! ### Meanings -/

/-- SAMPLE_SET_TAKEN (R6): taken in TAKING, discarded in IDLE and ENDED (R1, R4). -/
def execSampleSetTaken (lanes : Vector Sample 8) (s : State) : Host.Outcome State Fault Refusal :=
  drainEvent s (if s.intake.phase = .taking then takeSampleSet lanes s else s)

/-- LANE_ALIGNMENT_CHANGE (R2): LANE_FAULT begins or ends with it. The status is a pin's, so it also changes while RESET#
is asserted, when the station is UNCONFIGURED and no condition stands (log 12). -/
def execLaneAlignmentChange (lane : Fin 8) (out : Bool) (s : State) : Host.Outcome State Fault Refusal :=
  .next (if s.resetHeld then setLane lane out s else report s (setLane lane out s))

end Sys2Proof.Machine
end

