-- ==== Sys2Proof/Machine/Management.lean ====
section
/-! DEFINITION. The management port: transactions and the meanings of the management commands (R170 to R181, R186,
R188). -/

namespace Sys2Proof.Machine

/-- The port holds the reply of a command that has taken effect (R170, R171). -/
def answer (bytes : List Byte) (s : State) : State := { s with port := { phase := .reply, reply := bytes } }

/-- The effect of a command without arguments: its command byte is received in COMMAND. In any other state of the port
the byte is ignored (R170; log 18). -/
def onCommand (s effect : State) : State := if s.port.phase = .command then effect else s

/-- The effect of a command with arguments: its last argument byte is received in ARGUMENTS of that command. In any
other state of the port the byte is ignored (R170; log 18). -/
def onArguments (c : ArgCommand) (s effect : State) : State := if s.port.phase = .arguments c then effect else s

/-- The byte the port sends on SDO when `sent` bytes of the reply have been clocked out: none, at high impedance, in IDLE
and while RESET# is asserted; 00h in COMMAND, ARGUMENTS and DONE; in REPLY the next byte of the reply (R170). -/
def State.sdo (sent : Nat) (s : State) : Option Byte :=
  if s.resetHeld then none
  else
    match s.port.phase with
    | .idle => none
    | .command => some 0
    | .arguments _ => some 0
    | .reply => some (byteAt s.port.reply sent)
    | .done => some 0

/-- Move the transaction to another state (R170). -/
def movePort (phase : PortPhase) (s : State) : State := { s with port := { s.port with phase := phase } }

/-- LOAD CONFIG (R159, R160): the straps are sampled; outside UNCONFIGURED the record is refused with REFUSED_STATE; in
UNCONFIGURED it is judged. -/
def loadConfiguration (record : List Byte) (straps : BitVec 4) (s : State) : State :=
  let s₁ := sampleStraps straps s
  if s.station.phase = .unconfigured then
    match recordRejection record straps with
    | .none => answer [resultOk] (acceptConfiguration (configurationOf record) s₁)
    | reason =>
      answer [resultRefusedConfig, rejectionCode reason]
        (State.setFlag { s₁ with station := { s₁.station with lastRejection := reason } } .configRejected)
  else answer [resultRefusedState] s₁

/-- READ FAULTS (R178): the snapshot is the reply, and the flags set in it form the clear list. -/
def snapshotFaults (s : State) : State :=
  answer (resultOk :: faultsReply s) { s with faults := { s.faults with clearList := some s.faults.flags } }

/-- The rise of SCS# (R171, R178): in DONE the flags still on the clear list whose condition is absent are cleared; in
every state the transaction ends and the clear list is discarded. -/
def endTransaction (s : State) : State :=
  let cleared : BitVec 24 :=
    match s.port.phase, s.faults.clearList with
    | .done, some list => s.clearable list
    | _, _ => 0
  { s with
    port := {}
    faults := { s.faults with flags := s.faults.flags &&& ~~~cleared, clearList := none } }

/-- A named line under REARM MARKERS (R61): a set latch is cleared, and the line is armed in RUN. -/
def MarkerLine.rearmed (running : Bool) (l : MarkerLine) : MarkerLine :=
  if l.latch then (if running then { phase := .armed } else { phase := .off }) else l

/-- A line under REARM MARKERS: only an enabled line that the mask names is reached (R61). -/
def rearmLine (mask : Byte) (s : State) (line : Fin 4) : MarkerLine :=
  if mask.getLsbD line = true ∧ (s.enabledSetup line).isSome = true then
    (s.markers.lines.get line).rearmed (decide (s.station.phase = .run))
  else s.markers.lines.get line

/-- REARM MARKERS (R61). -/
def rearmNamed (mask : Byte) (s : State) : State :=
  { s with markers := { s.markers with lines := PerLine.tabulate (rearmLine mask s) } }

/-! ### Meanings -/

/-- IDENTIFY (R173). -/
def execIdentify (s : State) : Host.Outcome State Fault Refusal :=
  event s (onCommand s (answer (resultOk :: identifyReply s) s))

/-- LOAD_CONFIG (R159, R160). -/
def execLoadConfig (record : Vector Byte 16) (straps : BitVec 4) (s : State) : Host.Outcome State Fault Refusal :=
  event s (onArguments .loadConfig s (loadConfiguration record.toList straps s))

/-- READ_STATUS (R173). -/
def execReadStatus (s : State) : Host.Outcome State Fault Refusal :=
  event s (onCommand s (answer (resultOk :: statusReply s) s))

/-- READ_FAULTS (R178). -/
def execReadFaults (s : State) : Host.Outcome State Fault Refusal := event s (onCommand s (snapshotFaults s))

/-- SET_ALERT_MASK (R180): the mask is replaced whole; bits 6 and 7 are ignored (R186). -/
def execSetAlertMask (mask : Byte) (s : State) : Host.Outcome State Fault Refusal :=
  event s
    (onArguments .setAlertMask s
      (answer [resultOk] { s with faults := { s.faults with alertMask := mask.setWidth 6 } }))

/-- READ_COUNTERS (R174). -/
def execReadCounters (s : State) : Host.Outcome State Fault Refusal :=
  event s (onCommand s (answer (resultOk :: countersReply s.counters) s))

/-- READ_SEGMENT (R86). -/
def execReadSegment (position : Byte) (s : State) : Host.Outcome State Fault Refusal :=
  event s (onArguments .readSegment s (answer (resultOk :: segmentReply (s.segmentAt position.toNat)) s))

/-- READ_GAP (R51). -/
def execReadGap (position : Byte) (s : State) : Host.Outcome State Fault Refusal :=
  event s (onArguments .readGap s (answer (resultOk :: gapReply (nth s.gaps.entries position.toNat)) s))

/-- READ_PEER (R156). -/
def execReadPeer (address : Byte) (s : State) : Host.Outcome State Fault Refusal :=
  event s (onArguments .readPeer s (answer (resultOk :: peerRecord s address) s))

/-- REARM_MARKERS (R61): OK in every state (R172). -/
def execRearmMarkers (mask : Byte) (s : State) : Host.Outcome State Fault Refusal :=
  event s (onArguments .rearmMarkers s (answer [resultOk] (rearmNamed mask s)))

/-- STOP_RUN (R164): refused with REFUSED_STATE outside RUN. -/
def execStopRun (s : State) : Host.Outcome State Fault Refusal :=
  drainEvent s
    (onCommand s
      (if s.station.phase = .run then answer [resultOk] (takeStop s) else answer [resultRefusedState] s))

/-- SOFT_RESET (R168): accepted in every state. -/
def execSoftReset (s : State) : Host.Outcome State Fault Refusal :=
  event s (onCommand s (answer [resultOk] (softResetStation s)))

/-- UNKNOWN_COMMAND (R171): the result alone, and nothing changes. A byte that names a command is not this command
(log 29). -/
def execUnknownCommand (code : Byte) (s : State) : Host.Outcome State Fault Refusal :=
  event s (if 1 ≤ code.toNat ∧ code.toNat ≤ 12 then s else onCommand s (answer [resultUnknownCommand] s))

/-- SCS_RISE (R171, R178). -/
def execScsRise (s : State) : Host.Outcome State Fault Refusal := event s (endTransaction s)

/-- SCS_FALL (R170): a transaction begins. -/
def execScsFall (s : State) : Host.Outcome State Fault Refusal :=
  event s (if s.port.phase = .idle then movePort .command s else s)

/-- COMMAND_BYTE_RECEIVED (R170): the port awaits the command's arguments. -/
def execCommandByteReceived (command : ArgCommand) (s : State) : Host.Outcome State Fault Refusal :=
  event s (onCommand s (movePort (.arguments command) s))

/-- LAST_REPLY_BYTE_CLOCKED_OUT (R170): the port enters DONE, where it has no more bytes to send. -/
def execLastReplyByteClockedOut (s : State) : Host.Outcome State Fault Refusal :=
  event s (if s.port.phase = .reply then { s with port := { phase := .done } } else s)

end Sys2Proof.Machine
end

