-- ==== Sys2Proof/Machine/MarkerEvents.lean ====
section
/-! DEFINITION. The marker lines: qualification, the latch, acceptance and suppression, the marker window, and the
stand-alone consideration of the head boundary request (R52 to R67, R73). -/

namespace Sys2Proof.Machine

/-- Change one line. -/
def setLine (line : Fin 4) (l : MarkerLine) (s : State) : State :=
  { s with markers := { s.markers with lines := s.markers.lines.set line l } }

/-- A line with its setup, when the unit acts on it: it is enabled and the station is in RUN (R53). -/
def State.watchedLine (s : State) (line : Fin 4) : Option (LineSetup × MarkerLine) :=
  if s.station.phase = .run then (s.enabledSetup line).map fun setup => (setup, s.markers.lines.get line) else none

/-- Let an event reach a watched line: it takes the line's next value, if the event has an effect on the line (R54). -/
def onLine (line : Fin 4) (next : LineSetup → MarkerLine → Option MarkerLine) (s : State) : State :=
  match s.watchedLine line with
  | none => s
  | some (setup, l) =>
    match next setup l with
    | none => s
    | some l' => setLine line l' s

/-- The index an edge notes: the intake point minus 1, or 0 at intake point 0 (R17, R56). -/
def State.notedIndex (s : State) : Nat := s.intake.point - 1

/-- An edge is seen: an ARMED line starts qualification (R56); in RECOVERING it is the arrival of the active level, which
returns the line to LATCHED (R54, R60); otherwise it is ignored. -/
def edgeSeen (noted : Nat) (setup : LineSetup) (l : MarkerLine) : Option MarkerLine :=
  match l.phase with
  | .armed => some { l with phase := .qualifying, noted := some noted, timing := some setup.durationNs }
  | .recovering => some { l with phase := .latched, timing := none }
  | .off => none
  | .qualifying => none
  | .latched => none

/-- The inactive level is seen: it cancels a qualification (R57) and starts the inactive hold of a LATCHED AUTO line
(R60). -/
def inactiveSeen (setup : LineSetup) (l : MarkerLine) : Option MarkerLine :=
  match l.phase, setup.rearm with
  | .qualifying, _ => some { l with phase := .armed, noted := none, timing := none }
  | .latched, .auto => some { l with phase := .recovering, timing := some setup.durationNs }
  | .latched, .manual => none
  | .off, _ => none
  | .armed, _ => none
  | .recovering, _ => none

/-- The active level is seen before the inactive hold ends (R60). -/
def activeSeen (l : MarkerLine) : Option MarkerLine :=
  match l.phase with
  | .recovering => some { l with phase := .latched, timing := none }
  | .off => none
  | .armed => none
  | .qualifying => none
  | .latched => none

/-- The inactive hold expires: the latch is cleared and the line is ARMED (R60). -/
def recoveryEnded (l : MarkerLine) : Option MarkerLine :=
  match l.phase with
  | .recovering => some { phase := .armed }
  | .off => none
  | .armed => none
  | .qualifying => none
  | .latched => none

/-- The marker sequence after a value: from 65535 to 1 (R64). -/
def nextMarkerSeq (seq : BitVec 16) : BitVec 16 := if seq = 65535 then 1 else seq + 1

/-- The acceptance test of R63: the window holds fewer than 4 times and the note part fewer than 8 notes. -/
def State.admitsMarker (s : State) : Bool :=
  decide (s.markers.window.length < Config.windowTimes) && decide (s.spine.notes.length < Config.noteSlots)

/-- The MARKER note of an accepted marker (R64). -/
def State.markerNote (s : State) (line : Fin 4) (noted : Nat) : Note where
  origin := s.unitOrigin
  body := .marker s.markers.nextSeq line noted

/-- The boundary request of an accepted marker (R64). -/
def State.markerRequest (s : State) (line : Fin 4) (noted : Nat) : Request where
  origin := s.unitOrigin.source
  seq := s.markers.nextSeq
  index := noted
  cause := .localLine line

/-- A marker is accepted: it takes the next sequence, its time joins the window, its note is queued and its request enters
the Boundary Queue (R64). -/
def acceptMarker (line : Fin 4) (noted now : Nat) (s : State) : State :=
  arriveRequest (s.markerRequest line noted)
    (joinNote (s.markerNote line noted)
      { s with
        markers :=
          { s.markers with
            lastSeq := s.markers.nextSeq
            nextSeq := nextMarkerSeq s.markers.nextSeq
            window := s.markers.window ++ [now] } })

/-- A marker is suppressed (R63). -/
def suppressMarker (s : State) : State :=
  State.setFlag { s with counters := { s.counters with suppressed := satAdd Config.counter32 s.counters.suppressed 1 } }
    .markerSuppressed

/-- A marker qualifies: its line is LATCHED, and the marker goes to acceptance (R57, R63). -/
def qualifyMarker (line : Fin 4) (now : Nat) (s : State) : State :=
  match s.watchedLine line with
  | none => s
  | some (_, l) =>
    match l.phase, l.noted with
    | .qualifying, some noted =>
      let s₁ := setLine line { phase := .latched, latch := true } s
      if s₁.admitsMarker then acceptMarker line noted now s₁ else suppressMarker s₁
    | _, _ => s

/-- The window after the leaving of its oldest time, when 1 ms has passed since it joined (R62). -/
def windowAfter (now : Nat) : List Nat → List Nat
  | [] => []
  | t :: rest => if t + Config.windowNs ≤ now then rest else t :: rest

/-! ### Meanings -/

/-- MARKER_EDGE (R56). -/
def execMarkerEdge (line : Fin 4) (s : State) : Host.Outcome State Fault Refusal :=
  event s (onLine line (edgeSeen s.notedIndex) s)

/-- MARKER_INACTIVE_LEVEL (R57, R60). -/
def execMarkerInactiveLevel (line : Fin 4) (s : State) : Host.Outcome State Fault Refusal :=
  event s (onLine line inactiveSeen s)

/-- MARKER_ACTIVE_IN_RECOVERY (R60). -/
def execMarkerActiveInRecovery (line : Fin 4) (s : State) : Host.Outcome State Fault Refusal :=
  event s (onLine line (fun _ l => activeSeen l) s)

/-- MARKER_QUALIFY (R57, R63, R64). -/
def execMarkerQualify (line : Fin 4) (now : Nat) (s : State) : Host.Outcome State Fault Refusal :=
  drainEvent s (qualifyMarker line now s)

/-- MARKER_RECOVERY_END (R60). -/
def execMarkerRecoveryEnd (line : Fin 4) (s : State) : Host.Outcome State Fault Refusal :=
  event s (onLine line (fun _ l => recoveryEnded l) s)

/-- MARKER_WINDOW_LEAVE (R62). -/
def execMarkerWindowLeave (now : Nat) (s : State) : Host.Outcome State Fault Refusal :=
  event s { s with markers := { s.markers with window := windowAfter now s.markers.window } }

/-- BOUNDARY_APPLY (R71 to R74): the Segment Table considers its head request, as the commands that bring a consideration
also do (log 3). -/
def execBoundaryApply (s : State) : Host.Outcome State Fault Refusal := drainEvent s (considerHead s)

end Sys2Proof.Machine
end

