-- ==== Sys2Proof/Machine/MemoryEvents.lean ====
section
/-! DEFINITION. The DRAM port's completions, the refresh interval timer and the temperature sensor (R19 to R38, R107 to
R111). -/

namespace Sys2Proof.Machine

/-- The operation in progress, unless it is left over from a SOFT RESET (R36). -/
def CaptureMemory.current (m : CaptureMemory) : Option PortOp :=
  match m.op with
  | some u => if u.stale then none else some u.op
  | none => none

/-- The operation in progress is left over from a SOFT RESET and is of this kind: it completes without effect (R36). -/
def CaptureMemory.leftOver (m : CaptureMemory) (kind : PortOp → Bool) : Bool :=
  match m.op with
  | some u => u.stale && kind u.op
  | none => false

/-- A block write. -/
def PortOp.isWrite : PortOp → Bool
  | .write => true
  | .read => false
  | .refresh _ => false

/-- A block read. -/
def PortOp.isRead : PortOp → Bool
  | .read => true
  | .write => false
  | .refresh _ => false

/-- A refresh. -/
def PortOp.isRefresh : PortOp → Bool
  | .refresh _ => true
  | .write => false
  | .read => false

/-! ### Block write (R23) -/

/-- The head block leaves the Staging Buffer and is stored at the write slot, which advances (R23). -/
def storeHead (s : State) : State :=
  match s.memory.staging with
  | [] => s
  | b :: rest =>
    { s with
      memory :=
        { s.memory with
          staging := rest
          dram := dramWrite s.memory.writeSlot { block := b } s.memory.dram
          storedCount := s.memory.storedCount + 1
          writeSlot := nextSlot s.capacity s.memory.writeSlot } }

/-- A block write completes (R23, R36). -/
def completeWrite (s : State) : State :=
  if s.memory.leftOver PortOp.isWrite then portFreed s
  else if s.memory.current = some .write ∧ s.memory.staging ≠ [] then portFreed (storeHead s)
  else s

/-! ### Block read (R24, R34) -/

/-- The slot that holds the block the assembler reads: the blocks of a span stand in consecutive slots from the drain slot
on, wrapping at C (R20, R100). -/
def State.readSlot (s : State) (w : WorkingCopy) (number : Nat) : Nat :=
  (s.memory.drainSlot + (number - w.first / Config.blockSamples)) % s.capacity

/-- The slot's errors after a read that found more of them (log 9). -/
def Slot.found (corrected : Nat) (uncorrectable : Bool) (x : Slot) : Slot :=
  { x with corrected := x.corrected + corrected, uncorrectable := x.uncorrectable || uncorrectable }

/-- The memory controller's part of a read completion: the errors met are counted and reported, and the request is no
longer outstanding (R24, R34). -/
def countRead (slot : Nat) (x : Slot) (s : State) : State :=
  let s₁ : State :=
    { s with
      memory := { s.memory with dram := dramWrite slot x s.memory.dram, readRequest := none }
      counters :=
        { s.counters with
          corrected := satAdd Config.counter32 s.counters.corrected x.corrected
          uncorrectable := satAdd Config.counter32 s.counters.uncorrectable (bit x.uncorrectable) } }
  if x.uncorrectable then s₁.setFlag .memoryError else s₁

/-- A block read completes: the assembler receives the block or the uncorrectable report (R24, R34, R36). -/
def completeRead (corrected : Nat) (uncorrectable : Bool) (s : State) : State :=
  if s.memory.leftOver PortOp.isRead then portFreed s
  else
    match s.memory.current, s.assembler.phase, s.memory.readRequest with
    | some .read, .assembling w, some number =>
      let slot := s.readSlot w number
      match dramRead slot s.memory.dram with
      | none => s
      | some x =>
        let x' := x.found corrected uncorrectable
        let s₁ := countRead slot x' s
        portFreed (if x'.uncorrectable then truncateFrame w x'.block s₁ else takeBlock w x'.block s₁)
    | _, _, _ => s

/-! ### Refresh and temperature (R29, R30, R32) -/

/-- A refresh completes: owed falls by 1 (R30); one left over from a SOFT RESET leaves it (R36). -/
def completeRefresh (s : State) : State :=
  if s.memory.leftOver PortOp.isRefresh then portFreed s
  else if (s.memory.current.any PortOp.isRefresh) = true then
    portFreed { s with memory := { s.memory with owed := s.memory.owed - 1 } }
  else s

/-- The refresh interval timer expires: it restarts at the mode's interval, and owed rises by 1, or the expiry is late
(R29). -/
def refreshExpired (s : State) : State :=
  match s.memory.refreshTimer with
  | none => s
  | some _ =>
    let s₁ : State := { s with memory := { s.memory with refreshTimer := some (refreshInterval s.memory.thermal) } }
    if s.memory.owed = 8 then
      State.setFlag
        { s₁ with counters := { s₁.counters with lateRefresh := satAdd Config.counter32 s₁.counters.lateRefresh 1 } }
        .refreshLate
    else grantPort { s₁ with memory := { s₁.memory with owed := s₁.memory.owed + 1 } }

/-- The thermal mode after a reading (R32). -/
def thermalAfter (mode : ThermalMode) (celsius : Int) : ThermalMode :=
  if 95 ≤ celsius then .overtemp
  else if celsius < 80 then .normal
  else
    match mode with
    | .normal => if 85 ≤ celsius then .hot else .normal
    | .hot => .hot
    | .overtemp => if 90 ≤ celsius then .overtemp else .hot

/-! ### Meanings -/

/-- BLOCK_WRITE_COMPLETE (R23). -/
def execBlockWriteComplete (s : State) : Host.Outcome State Fault Refusal := drainEvent s (completeWrite s)

/-- BLOCK_READ_COMPLETE (R24, R34, R107 to R111). -/
def execBlockReadComplete (corrected : Nat) (uncorrectable : Bool) (s : State) : Host.Outcome State Fault Refusal :=
  drainEvent s (completeRead corrected uncorrectable s)

/-- REFRESH_COMPLETE (R30). -/
def execRefreshComplete (s : State) : Host.Outcome State Fault Refusal := event s (completeRefresh s)

/-- REFRESH_EXPIRY (R29). -/
def execRefreshExpiry (s : State) : Host.Outcome State Fault Refusal := event s (refreshExpired s)

/-- THERMAL_READING (R32). -/
def execThermalReading (celsius : Int) (s : State) : Host.Outcome State Fault Refusal :=
  event s { s with memory := { s.memory with thermal := thermalAfter s.memory.thermal celsius } }

end Sys2Proof.Machine
end

