-- ==== Sys2Proof/Machine/PresenceEvents.lean ====
section
/-! DEFINITION. The Presence Unit's pace tick and expiries (R140, R141, R143, R148, R150 to R155). -/

namespace Sys2Proof.Machine

/-! ### Part 1: the peer table ages (R148) -/

/-- A peer entry that has reached the age of its state's end changes state (R148). -/
def PeerEntry.judged (e : PeerEntry) : PeerEntry :=
  match e.phase with
  | .absent => e
  | .live => if Config.staleTicks ≤ e.age then { e with phase := .stale } else e
  | .mismatched => if Config.staleTicks ≤ e.age then { e with phase := .stale } else e
  | .stale => if Config.absentTicks ≤ e.age then {} else e

/-- A peer entry that is not ABSENT ages by one tick, and any change of state that follows is made (R140, R148). -/
def PeerEntry.aged (e : PeerEntry) : PeerEntry :=
  if e.phase = .absent then e else PeerEntry.judged { e with age := e.age + 1 }

/-- Part 1 of the tick (R140). -/
def agePeers (s : State) : State :=
  { s with presence := { s.presence with peers := s.presence.peers.map PeerEntry.aged } }

/-! ### Part 2: the ingest record ages (R150) -/

/-- The ingest record has reached age 8. -/
def State.ingestOut (s : State) : Bool := s.presence.ingest.any fun r => decide (Config.ingestTicks ≤ r.age)

/-- A record that has reached age 8 ages out: it is absent, and ARCHIVE_HOLD ends, which brings an arbiter choice on a FREE
output (R150, R126). In a tick that choice falls here in part 2, before RING_OPEN of part 3 and the note of part 5: the
model's choice (log 34). -/
def ageOutIngest (s : State) : State :=
  if s.ingestOut then
    arbitrate
      { s with
        presence := { s.presence with ingest := none }
        spine := { s.spine with hold := { s.spine.hold with archiveHold := false } } }
  else s

/-- Part 2 of the tick (R140). -/
def ageIngest (s : State) : State :=
  ageOutIngest
    { s with presence := { s.presence with ingest := s.presence.ingest.map fun r => { r with age := r.age + 1 } } }

/-! ### Part 3: the return counter (R143) -/

/-- A return counter that has reached 8 sets RING_OPEN (R143). -/
def openRing (s : State) : State :=
  if Config.ringOpenTicks ≤ s.presence.returnCounter then
    { s with spine := { s.spine with hold := { s.spine.hold with ringOpen := true } } }
  else s

/-- Part 3 of the tick (R140). -/
def advanceReturn (s : State) : State :=
  openRing
    { s with presence := { s.presence with returnCounter := satAdd Config.ringOpenTicks s.presence.returnCounter 1 } }

/-! ### Part 4: f, D and E (R151 to R155) -/

/-- The fill permille f (R151). -/
def State.fillPermille (s : State) : Nat := 1000 * s.held / s.capacity

/-- The highest level whose raise threshold is at or below f; 0 when none is (R152). -/
def raiseLevel (f : Nat) : Level :=
  if 850 ≤ f then 4 else if 700 ≤ f then 3 else if 550 ≤ f then 2 else if 400 ≤ f then 1 else 0

/-- The lower threshold of a level (R152); level 0 has none, and no f is below 0. -/
def lowerThreshold (level : Level) : Nat :=
  match level with
  | 0 => 0
  | 1 => 250
  | 2 => 400
  | 3 => 550
  | 4 => 700

/-- The level below a level. -/
def levelBelow (level : Level) : Level :=
  match level with
  | 0 => 0
  | 1 => 0
  | 2 => 1
  | 3 => 2
  | 4 => 3

/-- D and the hold counter after a tick in RUN or FLUSH: raise, lower or hold (R153). -/
def demandAfter (f holdTime : Nat) (demand : Level) (holdCounter : Nat) : Level × Nat :=
  if demand < raiseLevel f then (raiseLevel f, 0)
  else if 1 ≤ demand.val ∧ f < lowerThreshold demand ∧ holdTime ≤ holdCounter then (levelBelow demand, 0)
  else (demand, satAdd Config.counter16 holdCounter 1)

/-- D and the hold counter after a tick: by R153 in RUN and FLUSH, 0 in the other states (R154). -/
def State.nextDemand (s : State) : Level × Nat :=
  match s.station.phase with
  | .run => demandAfter s.fillPermille s.holdTime s.presence.demand s.presence.holdCounter
  | .flush => demandAfter s.fillPermille s.holdTime s.presence.demand s.presence.holdCounter
  | .unconfigured => (0, 0)
  | .joining => (0, 0)
  | .ready => (0, 0)
  | .done => (0, 0)

/-- The D a peer entry counts with: a LIVE one's (R155). -/
def PeerEntry.counted (e : PeerEntry) : Level := if e.phase = .live then e.demand else 0

/-- The greatest of D, the D of every LIVE peer and I (R155). -/
def greatestLevel (demand : Level) (peers : List PeerEntry) (ingest : Option IngestRecord) : Level :=
  peers.foldl (fun level e => max level e.counted)
    (max demand
      (match ingest with
      | some r => r.level
      | none => 0))

/-- Part 4 of the tick (R140). -/
def computeLevels (s : State) : State :=
  { s with
    presence :=
      { s.presence with
        fill := s.fillPermille
        demand := s.nextDemand.1
        holdCounter := s.nextDemand.2
        effective := greatestLevel s.nextDemand.1 s.presence.peers s.presence.ingest } }

/-! ### Part 5: the presence note (R141) -/

/-- The presence note of a tick (R141). -/
def State.presenceNote (s : State) : Note where
  origin := s.unitOrigin
  body :=
    .presence s.presence.sequence s.station.phase s.presence.demand s.presence.effective s.presence.fill s.spine.hold
      s.markers.lastSeq

/-- Part 5 of the tick: the note is handed to the Emit Queue, and the presence sequence advances (R121, R141). -/
def announce (s : State) : State :=
  queuePresence s.presenceNote { s with presence := { s.presence with sequence := s.presence.sequence + 1 } }

/-- The tick's five parts in order; none while the tick is stopped (R140). The arbiter's choices fall in parts 2 and 5, and
a frame start that a change of E brings comes after part 5 (log 34). -/
def paceTick (s : State) : State :=
  if s.presence.ticking then announce (computeLevels (advanceReturn (ageIngest (agePeers s)))) else s

/-! ### Meanings -/

/-- A peer entry is judged again by one of its ages (R148; log 3); an address that no peer has reaches nothing (log 29). -/
def judgePeer (phases : PeerPhase → Bool) (address : BitVec 4) (s : State) : State :=
  if isStationAddress address then
    { s with
      presence :=
        { s.presence with
          peers := mapNth (fun e => if phases e.phase then e.judged else e) (address.toNat - 1) s.presence.peers } }
  else s

/-- PACE_TICK (R140). -/
def execPaceTick (s : State) : Host.Outcome State Fault Refusal := drainEvent s (paceTick s)

/-- PEER_STALE_EXPIRY (R148): a LIVE or MISMATCHED entry at age 8 becomes STALE. -/
def execPeerStaleExpiry (address : BitVec 4) (s : State) : Host.Outcome State Fault Refusal :=
  event s (judgePeer (fun phase => phase == .live || phase == .mismatched) address s)

/-- PEER_ABSENT_EXPIRY (R148): a STALE entry at age 64 becomes ABSENT with every field cleared. -/
def execPeerAbsentExpiry (address : BitVec 4) (s : State) : Host.Outcome State Fault Refusal :=
  event s (judgePeer (fun phase => phase == .stale) address s)

/-- INGEST_AGE_OUT (R150). -/
def execIngestAgeOut (s : State) : Host.Outcome State Fault Refusal := event s (ageOutIngest s)

/-- RING_OPEN (R143). -/
def execRingOpen (s : State) : Host.Outcome State Fault Refusal := event s (openRing s)

end Sys2Proof.Machine
end

