-- ==== Sys2Proof/Machine/SpineEvents.lean ====
section
/-! DEFINITION. The spine: header arrival, the end of a unit, the hand-on, and the ends of forwarding and insertion
(R117 to R139, R65, R142, R144, R145, R147, R149). -/

namespace Sys2Proof.Machine

/-! ### Byte counts (R127; log 7) -/

/-- The bytes sent so far of the unit being forwarded. -/
def noteSent (sent : Nat) (s : State) : State :=
  if s.spine.port = .forwarding then
    { s with
      spine :=
        { s.spine with transit := mapHead (fun u => { u with sent := max u.sent (min sent u.received) }) s.spine.transit } }
  else s

/-- A unit that still arrives has these bytes after its header by now: none known is lost again, and bytes beyond the
declared length are dropped (R119). -/
def TransitUnit.arrived (bytes : List Byte) (u : TransitUnit) : TransitUnit :=
  if u.ended then u
  else
    { u with
      body := if u.body.length < bytes.length then bytes.take (u.length - Config.headerBytes) else u.body
      received := max u.received (min (Config.headerBytes + bytes.length) u.length) }

/-- The bytes received so far of the unit arriving. -/
def noteReceived (arrived : List Byte) (s : State) : State :=
  { s with spine := { s.spine with transit := mapLast (TransitUnit.arrived arrived) s.spine.transit } }

/-! ### Counts and flags (R137) -/

/-- CHECK_ERROR is set and the check error count rises (R119, R133). -/
def countCheckError (s : State) : State :=
  State.setFlag
    { s with counters := { s.counters with checkError := satAdd Config.counter32 s.counters.checkError 1 } } .checkError

/-- TRANSIT_OVERFLOW is set and its count rises (R131). -/
def countOverflow (s : State) : State :=
  State.setFlag
    { s with counters := { s.counters with overflow := satAdd Config.counter32 s.counters.overflow 1 } }
    .transitOverflow

/-- ORPHAN is set and the orphan count rises (R136). -/
def countOrphan (s : State) : State :=
  State.setFlag { s with counters := { s.counters with orphan := satAdd Config.counter32 s.counters.orphan 1 } } .orphan

/-! ### Header arrival (R130, R131) -/

/-- A unit is arriving whose end is awaited: no header can arrive before it (R119). A unit discarded at its header
arrival is awaited no more (log 20). -/
def State.awaitingEnd (s : State) : Bool := s.spine.input.any fun a => decide (a.fate ≠ .discarded)

/-- The source address is the own address (R130, R135); a station without one strips nothing as own (R118). -/
def State.isOwnSource (s : State) (header : List Byte) : Bool := decide (s.spine.ownAddress = some (sourceOf header))

/-- The first test of R130 that holds decides the unit; `none` is the overflow test. -/
inductive ArrivalTest where
  | badLength
  | own
  | orphan
  | overflow
  | accepted
deriving DecidableEq, Repr

/-- The tests of R130, in order. -/
def State.judgeArrival (s : State) (header : List Byte) : ArrivalTest :=
  if badLength header then .badLength
  else if s.isOwnSource header then .own
  else if Config.hopLimit ≤ hopOf header then .orphan
  else if Config.transitBytes < occupancy s.spine.transit + unitLengthOf header then .overflow
  else .accepted

/-- The unit arriving stands on the input with its fate. -/
def setInput (header : List Byte) (fate : ArrivalFate) (s : State) : State :=
  { s with spine := { s.spine with input := some { header := header, fate := fate } } }

/-- An accepted unit enters the transit buffer with its 60 header bytes (R130). -/
def acceptUnit (header : List Byte) (s : State) : State :=
  arbitrate
    { s with
      spine :=
        { s.spine with
          transit :=
            s.spine.transit ++
              [{ header := header, length := unitLengthOf header, received := Config.headerBytes }] } }

/-- A header arrives (R130). -/
def arriveHeader (header : List Byte) (s : State) : State :=
  match s.judgeArrival header with
  | .badLength => countCheckError (setInput header .discarded s)
  | .own => setInput header .strippedOwn s
  | .orphan => setInput header .strippedOrphan s
  | .overflow => countOverflow (setInput header .discarded s)
  | .accepted => acceptUnit header (setInput header .accepted s)

/-! ### The hand-on of a good unit (R134, R135) -/

/-- The kinds of units (R182). -/
def isFrameKind (kind : Byte) : Bool := decide (kind = 1) || decide (kind = 2) || decide (kind = 3)
def presenceKind : Byte := 0x10
def markerKind : Byte := 0x11
def ingestKind : Byte := 0x12

/-- A return: the counter goes to 0, RING_OPEN is cleared, and the station is joined; the first one clears NOT_JOINED and
moves JOINING to READY (R142 to R144). -/
def takeReturn (s : State) : State :=
  { s with
    presence := { s.presence with returnCounter := 0, joined := true }
    spine :=
      { s.spine with
        hold := { s.spine.hold with ringOpen := false, notJoined := s.spine.hold.notJoined && s.presence.joined } }
    station :=
      { s.station with
        phase := if s.presence.joined = false ∧ s.station.phase = .joining then .ready else s.station.phase } }

/-- An own note comes back (R142, R145). A note sent before ADDRESS_CLASH that returns while the clash is present is a return
like any other and joins the station: the model goes by R142's table, against R167's "cannot join" (log 33). -/
def ownNote (header : List Byte) (s : State) : State :=
  if deviceOf header ≠ s.station.deviceNumber then
    { s with spine := { s.spine with hold := { s.spine.hold with addressClash := true } } }
  else if incarnationOf header = s.station.incarnation ∧ s.station.phase ≠ .unconfigured then takeReturn s
  else s

/-- An own frame comes back: with the own device number it is unclaimed (R124, R135). -/
def ownFrame (header : List Byte) (s : State) : State :=
  if deviceOf header = s.station.deviceNumber then
    { s with
      spine := { s.spine with hold := { s.spine.hold with archiveAbsent := true } }
      counters := { s.counters with unclaimed := satAdd Config.counter32 s.counters.unclaimed 1 } }
  else s

/-- The entry a peer's presence note makes (R147). -/
def peerEntryOf (header : List Byte) (s : State) : PeerEntry where
  phase := if runTagOf header = s.runTag ∧ rateClassOf header = s.rateClass then .live else .mismatched
  lastSeq := presenceSeqOf header
  demand := presenceDemandOf header
  fill := presenceFillOf header
  runTag := runTagOf header
  rateClass := rateClassOf header
  age := 0

/-- A peer's presence note: no effect in UNCONFIGURED (R147). -/
def peerPresence (header : List Byte) (s : State) : State :=
  if s.station.phase = .unconfigured then s
  else
    { s with
      presence :=
        { s.presence with
          peers := mapNth (fun _ => peerEntryOf header s) ((sourceOf header).toNat - 1) s.presence.peers } }

/-- The tests of R65 on a peer's MARKER note; sources 16 to 255 pass (log 15). -/
def State.admitsPeerMarker (s : State) (header : List Byte) : Bool :=
  decide (sourceOf header ≠ 0) && decide (sourceOf header ≠ 15) &&
  (decide (s.station.phase = .run) || decide (s.station.phase = .flush)) &&
  decide (runTagOf header = s.runTag) && decide (rateClassOf header = s.rateClass) &&
  decide (markerLineOf header ≤ 3) && decide (markerSeqOf header ≠ 0)

/-- The boundary request of a peer's MARKER note (R65). -/
def peerRequestOf (header : List Byte) : Request where
  origin := sourceOf header
  seq := markerSeqOf header
  index := markerIndexOf header
  cause := .peerLine (Fin.ofNat 4 (markerLineOf header))

/-- A peer's MARKER note (R65). -/
def peerMarker (header : List Byte) (s : State) : State :=
  if s.admitsPeerMarker header then arriveRequest (peerRequestOf header) s else s

/-- The ingest record a note makes (R149). -/
def ingestRecordOf (header : List Byte) : IngestRecord where
  seq := ingestSeqOf header
  level := ingestLevelOf header
  hold := ingestHoldOf header
  age := 0

/-- An INGEST note from address 0: ARCHIVE_ABSENT is cleared in every state; outside UNCONFIGURED the record, ARCHIVE_HOLD
and E follow the note (R124, R149). -/
def ingestNote (header : List Byte) (s : State) : State :=
  if s.station.phase = .unconfigured then
    { s with spine := { s.spine with hold := { s.spine.hold with archiveAbsent := false } } }
  else
    { s with
      spine :=
        { s.spine with hold := { s.spine.hold with archiveAbsent := false, archiveHold := ingestHoldOf header } }
      presence :=
        { s.presence with
          ingest := some (ingestRecordOf header)
          effective := max s.presence.effective (ingestLevelOf header) } }

/-- A source address that a peer has (R134). -/
def isPeerSource (source : Byte) : Bool := decide (1 ≤ source.toNat) && decide (source.toNat ≤ 14)

/-- A good unit that was stripped as own at its header arrival (R135). -/
def ownUnit (header : List Byte) (s : State) : State :=
  if (kindOf header = presenceKind ∨ kindOf header = markerKind) ∧ payloadLengthOf header = 0 then ownNote header s
  else if isFrameKind (kindOf header) then ownFrame header s
  else s

/-- A good unit that was accepted is handed on by its kind and source (R134); one whose source is the own address by its
end is an own note or is handed to no block (log 22). -/
def handOn (header : List Byte) (s : State) : State :=
  if payloadLengthOf header ≠ 0 then s
  else if s.isOwnSource header then
    if kindOf header = presenceKind ∨ kindOf header = markerKind then ownNote header s else s
  else if kindOf header = presenceKind then (if isPeerSource (sourceOf header) then peerPresence header s else s)
  else if kindOf header = markerKind then peerMarker header s
  else if kindOf header = ingestKind ∧ sourceOf header = 0 then ingestNote header s
  else s

/-! ### The end of a unit (R119, R133 to R136) -/

/-- The bytes of a unit after its header that the input keeps: none beyond the declared length (R119). -/
def keptBytes (header rest : List Byte) : List Byte := rest.take (unitLengthOf header - Config.headerBytes)

/-- The unit is good (R133): it was received whole, its end coming exactly at its declared length (R119; log 8), and its
last four bytes are its check word. -/
def isGood (header rest : List Byte) : Bool :=
  decide (Config.headerBytes + rest.length = unitLengthOf header) &&
  decide (fieldAt rest (payloadLengthOf header) 4 =
    (checkWord header (rest.take (payloadLengthOf header))).toNat)

/-- A transit unit ends at the input with these bytes after its header; a short one ends where the input ended it
(R119, R132). -/
def TransitUnit.endedWith (body : List Byte) (u : TransitUnit) : TransitUnit :=
  if u.ended then u
  else
    { u with
      body := body
      length := Config.headerBytes + body.length
      received := Config.headerBytes + body.length
      ended := true }

/-- The unit's end at the transit buffer, for an accepted unit. -/
def endTransit (fate : ArrivalFate) (body : List Byte) (s : State) : State :=
  if fate = .accepted then
    { s with spine := { s.spine with transit := mapLast (TransitUnit.endedWith body) s.spine.transit } }
  else s

/-- The end of a unit that was accepted or stripped: the check, the orphan count and the hand-on of a good unit; a hold-set
member that clears brings an arbiter choice (R126, R133 to R136). -/
def judgeEnd (header rest : List Byte) (fate : ArrivalFate) (s : State) : State :=
  let s₁ := if isGood header rest then s else countCheckError s
  if fate = .strippedOrphan then countOrphan s₁
  else if isGood header rest then
    arbitrate (if fate = .strippedOwn then ownUnit header s₁ else handOn header s₁)
  else s₁

/-- The end mark of a unit (R119, R133): a runt when no header has arrived; nothing more of a discarded unit. -/
def endUnit (rest : List Byte) (s : State) : State :=
  match s.spine.input with
  | none => countCheckError s
  | some a =>
    let s₁ : State := { s with spine := { s.spine with input := none } }
    if a.fate = .discarded then s₁
    else judgeEnd a.header rest a.fate (endTransit a.fate (keptBytes a.header rest) s₁)

/-! ### The output's ends (R122, R126, R132) -/

/-- The forwarded unit's last byte is sent: its end has come at the input, or all its declared bytes have. It leaves the
buffer, and a choice is made (R126, R132). -/
def endForwarding (s : State) : State :=
  match s.spine.port, s.spine.transit with
  | .forwarding, u :: rest =>
    if u.length ≤ u.received then
      outputFreed { noteSentUnit s with spine := { (noteSentUnit s).spine with transit := rest } }
    else s
  | _, _ => s

/-- A note's insertion ends (R126, R129). -/
def endNote (s : State) : State :=
  match s.spine.port with
  | .insertingNote _ => outputFreed (noteSentUnit s)
  | .free => s
  | .forwarding => s
  | .insertingFrame => s

/-- A frame's insertion completes: its slot frees (R122, R129). -/
def endFrame (s : State) : State :=
  match s.spine.port with
  | .insertingFrame =>
    outputFreed { noteSentUnit s with spine := { (noteSentUnit s).spine with frames := s.spine.frames.tail } }
  | .free => s
  | .forwarding => s
  | .insertingNote _ => s

/-! ### Meanings -/

/-- UNIT_HEADER_ARRIVAL (R130). -/
def execUnitHeaderArrival (header : Vector Byte 60) (sent : Nat) (s : State) : Host.Outcome State Fault Refusal :=
  event s (if s.awaitingEnd then s else arriveHeader header.toList (noteSent sent s))

/-- UNIT_END (R133). -/
def execUnitEnd (rest : List Byte) (s : State) : Host.Outcome State Fault Refusal := drainEvent s (endUnit rest s)

/-- FORWARDING_END (R132). -/
def execForwardingEnd (arrived : List Byte) (s : State) : Host.Outcome State Fault Refusal :=
  event s (endForwarding (noteReceived arrived s))

/-- NOTE_INSERTION_END (R126). -/
def execNoteInsertionEnd (arrived : List Byte) (s : State) : Host.Outcome State Fault Refusal :=
  event s (endNote (noteReceived arrived s))

/-- FRAME_INSERTION_COMPLETE (R122). -/
def execFrameInsertionComplete (arrived : List Byte) (s : State) : Host.Outcome State Fault Refusal :=
  drainEvent s (endFrame (noteReceived arrived s))

end Sys2Proof.Machine
end

