-- ==== Sys2Proof/Machine/Dispatch.lean ====
section
/-! DEFINITION. The dispatch: one arm for each command, each a direct call of its meaning. -/

namespace Sys2Proof.Machine

def exec (i : Instr) (s : State) : Host.Outcome State Fault Refusal :=
  match i with
  | .powerOn straps => Sys2Proof.Machine.execPowerOn straps s
  | .resetAssert => Sys2Proof.Machine.execResetAssert s
  | .resetRelease straps => Sys2Proof.Machine.execResetRelease straps s
  | .identify => Sys2Proof.Machine.execIdentify s
  | .loadConfig record straps => Sys2Proof.Machine.execLoadConfig record straps s
  | .readStatus => Sys2Proof.Machine.execReadStatus s
  | .readFaults => Sys2Proof.Machine.execReadFaults s
  | .setAlertMask mask => Sys2Proof.Machine.execSetAlertMask mask s
  | .readCounters => Sys2Proof.Machine.execReadCounters s
  | .readSegment position => Sys2Proof.Machine.execReadSegment position s
  | .readGap position => Sys2Proof.Machine.execReadGap position s
  | .readPeer address => Sys2Proof.Machine.execReadPeer address s
  | .rearmMarkers mask => Sys2Proof.Machine.execRearmMarkers mask s
  | .stopRun => Sys2Proof.Machine.execStopRun s
  | .softReset => Sys2Proof.Machine.execSoftReset s
  | .unknownCommand code => Sys2Proof.Machine.execUnknownCommand code s
  | .scsRise => Sys2Proof.Machine.execScsRise s
  | .sampleSetTaken lanes => Sys2Proof.Machine.execSampleSetTaken lanes s
  | .laneAlignmentChange lane out => Sys2Proof.Machine.execLaneAlignmentChange lane out s
  | .startEdge => Sys2Proof.Machine.execStartEdge s
  | .stopEdge => Sys2Proof.Machine.execStopEdge s
  | .markerEdge line => Sys2Proof.Machine.execMarkerEdge line s
  | .markerInactiveLevel line => Sys2Proof.Machine.execMarkerInactiveLevel line s
  | .markerActiveInRecovery line => Sys2Proof.Machine.execMarkerActiveInRecovery line s
  | .markerQualify line now => Sys2Proof.Machine.execMarkerQualify line now s
  | .markerRecoveryEnd line => Sys2Proof.Machine.execMarkerRecoveryEnd line s
  | .markerWindowLeave now => Sys2Proof.Machine.execMarkerWindowLeave now s
  | .boundaryApply => Sys2Proof.Machine.execBoundaryApply s
  | .blockWriteComplete => Sys2Proof.Machine.execBlockWriteComplete s
  | .blockReadComplete corrected uncorrectable => Sys2Proof.Machine.execBlockReadComplete corrected uncorrectable s
  | .refreshComplete => Sys2Proof.Machine.execRefreshComplete s
  | .refreshExpiry => Sys2Proof.Machine.execRefreshExpiry s
  | .thermalReading celsius => Sys2Proof.Machine.execThermalReading celsius s
  | .trailerPlace => Sys2Proof.Machine.execTrailerPlace s
  | .gapFramePlace => Sys2Proof.Machine.execGapFramePlace s
  | .dataFrameStart => Sys2Proof.Machine.execDataFrameStart s
  | .memoryGapPlace => Sys2Proof.Machine.execMemoryGapPlace s
  | .flushAgeExpiry => Sys2Proof.Machine.execFlushAgeExpiry s
  | .unitHeaderArrival header sent => Sys2Proof.Machine.execUnitHeaderArrival header sent s
  | .unitEnd rest => Sys2Proof.Machine.execUnitEnd rest s
  | .forwardingEnd arrived => Sys2Proof.Machine.execForwardingEnd arrived s
  | .noteInsertionEnd arrived => Sys2Proof.Machine.execNoteInsertionEnd arrived s
  | .frameInsertionComplete arrived => Sys2Proof.Machine.execFrameInsertionComplete arrived s
  | .paceTick => Sys2Proof.Machine.execPaceTick s
  | .peerStaleExpiry address => Sys2Proof.Machine.execPeerStaleExpiry address s
  | .peerAbsentExpiry address => Sys2Proof.Machine.execPeerAbsentExpiry address s
  | .ingestAgeOut => Sys2Proof.Machine.execIngestAgeOut s
  | .ringOpen => Sys2Proof.Machine.execRingOpen s
  | .flushComplete => Sys2Proof.Machine.execFlushComplete s
  | .scsFall => Sys2Proof.Machine.execScsFall s
  | .commandByteReceived command => Sys2Proof.Machine.execCommandByteReceived command s
  | .lastReplyByteClockedOut => Sys2Proof.Machine.execLastReplyByteClockedOut s

end Sys2Proof.Machine
end

