-- ==== Sys2Proof/Safety.lean ====
section
/-! DEFINITION. What the claims speak of: which part of the state a command may reach, and the conditions that every
station keeps from step to step. Nothing here is part of the machine. -/

namespace Sys2Proof.Machine

/-! ### Frames -/

/-- The parts of the state, one for each block, and the queue of waiting commands. -/
inductive Part where
  | intake
  | memory
  | gaps
  | markers
  | table
  | assembler
  | spine
  | presence
  | station
  | port
  | faults
  | counters
  | resetHeld
  | pending
deriving DecidableEq, Repr

/-- The part stands alike in two states. -/
def Part.same (s t : State) : Part → Prop
  | .intake => t.intake = s.intake
  | .memory => t.memory = s.memory
  | .gaps => t.gaps = s.gaps
  | .markers => t.markers = s.markers
  | .table => t.table = s.table
  | .assembler => t.assembler = s.assembler
  | .spine => t.spine = s.spine
  | .presence => t.presence = s.presence
  | .station => t.station = s.station
  | .port => t.port = s.port
  | .faults => t.faults = s.faults
  | .counters => t.counters = s.counters
  | .resetHeld => t.resetHeld = s.resetHeld
  | .pending => t.pending = s.pending

/-- Every part but the ones named stands alike in both states. -/
def sameBut (parts : List Part) (s t : State) : Prop := ∀ p : Part, p ∉ parts → p.same s t

/-- The parts that the frame starts and the flush completion of an event may reach (R93, R112, R166). -/
def drainParts : List Part := [.memory, .gaps, .table, .assembler, .spine, .station, .faults, .counters]

/-- What every frame start, placement and flush completion leaves of the parts it may reach: the ring and the refresh
debt, the transit path and the hold set, and the station's run. Frames join the frame part behind those that wait. -/
structure DrainKeeps (s t : State) : Prop where
  dram : t.memory.dram = s.memory.dram
  writeSlot : t.memory.writeSlot = s.memory.writeSlot
  drainSlot : t.memory.drainSlot = s.memory.drainSlot
  storedCount : t.memory.storedCount = s.memory.storedCount
  staging : t.memory.staging = s.memory.staging
  owed : t.memory.owed = s.memory.owed
  refreshTimer : t.memory.refreshTimer = s.memory.refreshTimer
  thermal : t.memory.thermal = s.memory.thermal
  selfRefresh : t.memory.selfRefresh = s.memory.selfRefresh
  ownAddress : t.spine.ownAddress = s.spine.ownAddress
  strapSample : t.spine.strapSample = s.spine.strapSample
  input : t.spine.input = s.spine.input
  transit : t.spine.transit = s.spine.transit
  hold : t.spine.hold = s.spine.hold
  lastSent : t.spine.lastSent = s.spine.lastSent
  frames : s.spine.frames <+: t.spine.frames
  config : t.station.config = s.station.config
  startCount : t.station.startCount = s.station.startCount
  capturedTag : t.station.capturedTag = s.station.capturedTag
  incarnation : t.station.incarnation = s.station.incarnation
  lastRejection : t.station.lastRejection = s.station.lastRejection
  deviceNumber : t.station.deviceNumber = s.station.deviceNumber
  mode : t.faults.mode = s.faults.mode
  alertMask : t.faults.alertMask = s.faults.alertMask

/-! ### The DRAM port -/

/-- The first of R27's five rows that waits, in the order of its table: what the port grants when it is free. -/
def firstClaim (owed : Int) (staged requested : Bool) : Option PortOp :=
  if owed = 8 then some (.refresh .forced)
  else if staged then some .write
  else if requested then some .read
  else if 0 < owed then some (.refresh .postponed)
  else if -8 < owed then some (.refresh .pullIn)
  else none

/-- The operation a free port starts for a claim. -/
def granted (claim : Option PortOp) : Option PortUse := claim.map fun op => { op := op }

/-! ### Counts -/

/-- The indices an entry records. -/
def GapEntry.indices (e : GapEntry) : Nat := e.count + (e.heldPart.map HeldPart.count).getD 0

/-- The indices the Gap List records. -/
def GapList.indices (g : GapList) : Nat := (g.entries.map GapEntry.indices).sum

/-! ### What every step keeps -/

/-- The frame slots that may be taken: one stays free for the DATA frame in assembly (R93). -/
def AssemblerPhase.frameRoom : AssemblerPhase → Nat
  | .assembling _ => 3
  | .idle => Config.frameSlots
  | .pending _ => Config.frameSlots

/-- The queues and tables stay within their sizes (R22, R39, R62, R68, R79, R120, R122, R146); a frame in assembly finds a
frame slot (R93), and at most one presence note waits (R120). -/
abbrev State.withinSizes (s : State) : Prop :=
  s.memory.staging.length ≤ Config.stagingPlaces ∧ s.gaps.entries.length ≤ Config.gapEntries ∧
  s.markers.window.length ≤ Config.windowTimes ∧ s.table.queue.length ≤ Config.boundaryPlaces ∧
  s.table.live.length ≤ Config.liveSegments ∧ s.spine.notes.length ≤ Config.noteSlots ∧
  (s.spine.notes.filter Note.isPresence).length ≤ 1 ∧ s.presence.peers.length = 14 ∧
  s.spine.frames.length ≤ s.assembler.phase.frameRoom

/-- The intake's state in each station state (R4). -/
def intakePhaseIn : StationPhase → IntakePhase
  | .unconfigured => .idle
  | .joining => .idle
  | .ready => .idle
  | .run => .taking
  | .flush => .ended
  | .done => .ended

/-- The intake end in each intake state: in ENDED it is the intake point, else it is absent (R7). -/
def Intake.expectedEnd (i : Intake) : Option Nat :=
  match i.phase with
  | .idle => none
  | .taking => none
  | .ended => some i.point

/-- The intake's state agrees with the station's (R4), its end is frozen at the intake point (R7), and a station has a
configuration, a pace tick and a refresh timer in every state but UNCONFIGURED (R31, R140, R160), in which alone it can be
held in RESET# (R169). -/
abbrev State.phasesAgree (s : State) : Prop :=
  s.intake.phase = intakePhaseIn s.station.phase ∧
  s.intake.ending = s.intake.expectedEnd ∧
  (s.intake.phase = .idle → s.intake.point = 0) ∧
  (s.station.config.isSome = true ↔ s.station.phase ≠ .unconfigured) ∧
  (s.presence.ticking = true ↔ s.station.phase ≠ .unconfigured) ∧
  (s.memory.refreshTimer.isSome = true ↔ s.station.phase ≠ .unconfigured) ∧
  (s.resetHeld = true → s.station.phase = .unconfigured)

/-- The held count lies between 0 and C (R21). -/
abbrev State.heldWithin (s : State) : Prop := s.held ≤ s.capacity

/-- A refresh is in progress that was not left over from a SOFT RESET. -/
def CaptureMemory.refreshing (m : CaptureMemory) : Bool :=
  match m.op with
  | some u => !u.stale && u.op.isRefresh
  | none => false

/-- Owed lies between -8 and +8, and a refresh in progress can still lower it (R30). -/
abbrev State.owedWithin (s : State) : Prop :=
  -8 ≤ s.memory.owed ∧ s.memory.owed ≤ 8 ∧ (s.memory.refreshing = true → -8 < s.memory.owed)

/-- What a transit unit has received and sent fits its length. -/
abbrev TransitUnit.fits (u : TransitUnit) : Prop := u.received ≤ u.length ∧ (u.ended = true → u.received = u.length)

/-- The bytes that the transit units can still take in the buffer. -/
def transitNeed : List TransitUnit → Nat
  | [] => 0
  | u :: rest => (u.length - u.sent) + transitNeed rest

/-- The transit buffer never holds, and will never hold, more than 49,152 bytes (R131): all units but the newest have
ended, and one that has not is the accepted unit on the input, at its declared length. -/
abbrev State.transitWithin (s : State) : Prop :=
  transitNeed s.spine.transit ≤ Config.transitBytes ∧ (∀ u ∈ s.spine.transit, u.fits) ∧
  (∀ u ∈ s.spine.transit.dropLast, u.ended = true) ∧
  (∀ u ∈ s.spine.transit, u.ended = false →
    ∃ a ∈ s.spine.input, a.fate = .accepted ∧ u.length = unitLengthOf a.header)

/-- The live segments tile the run: each begins after the one before it, which ends at the sample before (R73, R79). -/
def segmentsTile : List Segment → Bool
  | [] => true
  | [_] => true
  | g :: h :: rest =>
    decide (g.start < h.start) && decide (g.ending = some (h.start - 1)) && segmentsTile (h :: rest)

/-- The live segments tile the run; in RUN the newest of them is OPEN, and outside RUN all of them are CLOSED (R78). -/
abbrev State.segmentsSound (s : State) : Prop :=
  segmentsTile s.table.live = true ∧
  (s.station.phase = .run → (s.table.live.getLast?.any fun g => g.ending.isNone) = true) ∧
  (s.station.phase ≠ .run → (s.table.live.all fun g => g.ending.isSome) = true)

/-- A line's latch is set in LATCHED and RECOVERING, and clear in ARMED and QUALIFYING (R54); a noted index is kept in
QUALIFYING alone, and a duration is timed in QUALIFYING and RECOVERING alone (R56, R60). -/
def MarkerLine.sound (l : MarkerLine) : Bool :=
  match l.phase with
  | .off => l.noted.isNone && l.timing.isNone
  | .armed => !l.latch && l.noted.isNone && l.timing.isNone
  | .qualifying => !l.latch && l.noted.isSome && l.timing.isSome
  | .latched => l.latch && l.noted.isNone && l.timing.isNone
  | .recovering => l.latch && l.noted.isNone && l.timing.isSome

/-- The four lines are sound, the next marker sequence is not 0 (R64), and outside RUN every line is OFF (R55). -/
abbrev State.markersSound (s : State) : Prop :=
  (∀ line : Fin 4, (s.markers.lines.get line).sound = true) ∧ s.markers.nextSeq ≠ 0 ∧
  (s.station.phase ≠ .run → ∀ line : Fin 4, (s.markers.lines.get line).phase = .off)

/-- An ABSENT peer entry has every other field zero, and the entry at the own address is ABSENT (R146). -/
abbrev State.peersSound (s : State) : Prop :=
  (∀ e ∈ s.presence.peers, e.phase = .absent → e = {}) ∧
  ∀ a e, s.spine.ownAddress = some a → 1 ≤ a.toNat → s.presence.peers[a.toNat - 1]? = some e → e.phase = .absent

/-- The flag of every condition that stands is set, and in LIVE mode the condition flags are the conditions
(R176, R177). -/
abbrev State.flagsFollow (s : State) : Prop :=
  s.conditions &&& ~~~s.faults.flags = 0 ∧
  (s.faults.mode = .live → s.faults.flags &&& conditionFlags = s.conditions)

/-- No diagnostic counter has fallen (R174). -/
abbrev Counters.atLeast (c d : Counters) : Prop :=
  d.staged ≤ c.staged ∧ d.gapSamples ≤ c.gapSamples ∧ d.forcedRefresh ≤ c.forcedRefresh ∧
  d.lateRefresh ≤ c.lateRefresh ∧ d.corrected ≤ c.corrected ∧ d.uncorrectable ≤ c.uncorrectable ∧
  d.suppressed ≤ c.suppressed ∧ d.absorbed ≤ c.absorbed ∧ d.clamped ≤ c.clamped ∧ d.overflow ≤ c.overflow ∧
  d.checkError ≤ c.checkError ∧ d.orphan ≤ c.orphan ∧ d.unclaimed ≤ c.unclaimed

/-- Every diagnostic counter lies within its range (R174). -/
abbrev Counters.within (c : Counters) : Prop :=
  c.staged ≤ Config.counter32 ∧ c.gapSamples ≤ Config.counter48 ∧ c.forcedRefresh ≤ Config.counter32 ∧
  c.lateRefresh ≤ Config.counter32 ∧ c.corrected ≤ Config.counter32 ∧ c.uncorrectable ≤ Config.counter32 ∧
  c.suppressed ≤ Config.counter32 ∧ c.absorbed ≤ Config.counter32 ∧ c.clamped ≤ Config.counter32 ∧
  c.overflow ≤ Config.counter32 ∧ c.checkError ≤ Config.counter32 ∧ c.orphan ≤ Config.counter32 ∧
  c.unclaimed ≤ Config.counter32

end Sys2Proof.Machine
end

