-- ==== Sys2Proof/Certificates/Slice0/Obligations.lean ====
section
/-! DEFINITION. The statements for the provers. Each docstring names the rules of spec/ it rests on. `s.resetHeld = false`
says that RESET# is not asserted; `s.flagsFollow` is an invariant (FlagsFollowKept, InvariantsHoldAtReset). -/

open Sys2Proof Sys2Proof.Machine

/-! ### The machine -/

/-- Tier 1. A step runs the command at the front of the queue on the queue's rest; on an empty queue the block idles
(log 2, the model's choice). -/
def Obligations.StepRunsTheFront : Prop :=
  (∀ (c : Instr) (rest : List Instr) (s : State),
    step { s with pending := c :: rest } = exec c { s with pending := rest }) ∧
  ∀ s : State, step { s with pending := [] } = .next { s with pending := [] }

/-- Tier 2. The part never stops, and no command touches the queue of waiting commands (log 26). -/
def Obligations.EveryCommandCompletes : Prop :=
  ∀ (c : Instr) (s : State), ∃ t, exec c s = .next t ∧ t.pending = s.pending

/-- Tier 1. The state after power-on or RESET# (R18, R37, R51, R67, R87, R116, R138, R157, R169, R181), and every invariant
stated below holds there. The straps read as 0 there until they are sampled, and the device number is 0 (the model's
choices, log 10, 11); the last unit sent is a field of the model's own (log 21). -/
def Obligations.ResetValues : Prop :=
  (State.reset.intake.phase = .idle ∧ State.reset.intake.point = 0 ∧ State.reset.intake.ending = none ∧
  State.reset.intake.filling = [] ∧ State.reset.intake.laneMark = false ∧ State.reset.intake.exhausted = false ∧
  State.reset.memory.staging = [] ∧ State.reset.held = 0 ∧ State.reset.memory.writeSlot = 0 ∧
  State.reset.memory.drainSlot = 0 ∧ State.reset.memory.owed = 0 ∧ State.reset.memory.refreshTimer = none ∧
  State.reset.memory.thermal = .normal ∧ State.reset.memory.selfRefresh = true ∧ State.reset.memory.op = none ∧
  State.reset.capacity = 0 ∧
  State.reset.gaps.entries = [] ∧ State.reset.gaps.active = false ∧ State.reset.gaps.overrun = false ∧
  (∀ line : Fin 4, State.reset.markers.lines.get line = { phase := .off, latch := false }) ∧
  State.reset.markers.window = [] ∧ State.reset.markers.nextSeq = 1 ∧ State.reset.markers.lastSeq = 0 ∧
  State.reset.table.queue = [] ∧ State.reset.table.live = [] ∧ State.reset.table.head = 1 ∧
  State.reset.assembler.phase = .idle ∧ State.reset.assembler.drain = 0 ∧ State.reset.assembler.frameSeq = 0 ∧
  State.reset.assembler.flushTimer = .stopped ∧
  State.reset.spine.port = .free ∧ State.reset.spine.transit = [] ∧ State.reset.spine.notes = [] ∧
  State.reset.spine.frames = [] ∧ State.reset.spine.hold = { notJoined := true } ∧
  State.reset.outputUnit = none ∧ State.reset.spine.lastSent = none ∧ State.reset.sdo 0 = none ∧
  State.reset.presence.ticking = false ∧ (∀ e ∈ State.reset.presence.peers, e.phase = .absent) ∧
  State.reset.presence.ingest = none ∧ State.reset.presence.demand = 0 ∧ State.reset.presence.effective = 0 ∧
  State.reset.presence.fill = 0 ∧ State.reset.presence.holdCounter = 0 ∧ State.reset.presence.returnCounter = 0 ∧
  State.reset.presence.joined = false ∧ State.reset.presence.sequence = 0 ∧
  State.reset.station.phase = .unconfigured ∧ State.reset.station.config = none ∧
  State.reset.station.startCount = 0 ∧ State.reset.station.incarnation = 0 ∧ State.reset.runTag = 0 ∧
  State.reset.station.lastRejection = .none ∧
  State.reset.faults.flags = 1 ∧ State.reset.faults.mode = .latched ∧ State.reset.faults.alertMask = 0 ∧
  State.reset.faults.clearList = none ∧ State.reset.alert = true ∧ State.reset.counters = {}) ∧
  State.reset.withinSizes ∧ State.reset.counters.within ∧ State.reset.phasesAgree ∧ State.reset.heldWithin ∧
  State.reset.owedWithin ∧ State.reset.transitWithin ∧ State.reset.segmentsSound ∧ State.reset.markersSound ∧
  State.reset.flagsFollow ∧ State.reset.peersSound ∧ Memory.wf State.reset.memory.dram = true

/-! ### Resets -/

/-- Tier 2. While RESET# is asserted the part does nothing (R169): every command but the supply's, RESET#'s own and the lane
alignment pins' (log 12) leaves the state as it is. RESET_ASSERT clears the station and stops both ports; POWER_ON and
RESET_RELEASE leave every block at its power-on values with the straps sampled and POR set (R118, R138, R169, R180, R181).
The model's choices: the values shown while RESET# is asserted, the strap sample 0 and no own address among them, and the
effect of a RESET_RELEASE without a RESET_ASSERT (log 10, 19); what no reset touches: the lane pins, the device number and
the queue (log 11, 12). -/
def Obligations.ResetsStartAfresh : Prop :=
  (∀ (c : Instr) (s : State), s.resetHeld = true → (∀ straps, c ≠ .powerOn straps) → c ≠ .resetAssert →
    (∀ straps, c ≠ .resetRelease straps) → (∀ lane out, c ≠ .laneAlignmentChange lane out) → exec c s = .next s) ∧
  (∀ s : State, ∃ t, exec .resetAssert s = .next t ∧
    t = { State.reset with
          intake := { State.reset.intake with laneOut := s.intake.laneOut }
          station := { State.reset.station with deviceNumber := s.station.deviceNumber }
          faults := { State.reset.faults with flags := 0 }
          resetHeld := true
          pending := s.pending } ∧
    t.outputUnit = none ∧ t.alert = false ∧ ∀ sent, t.sdo sent = none) ∧
  ∀ (straps : BitVec 4) (s : State), ∃ t, exec (.powerOn straps) s = .next t ∧
    exec (.resetRelease straps) s = .next t ∧
    t = { State.reset with
          intake := { State.reset.intake with laneOut := s.intake.laneOut }
          station := { State.reset.station with deviceNumber := s.station.deviceNumber }
          spine :=
            { State.reset.spine with
              strapSample := straps
              ownAddress := if 1 ≤ straps.toNat ∧ straps.toNat ≤ 14 then some (straps.setWidth 8) else none }
          pending := s.pending }

/-- Tier 2. SOFT_RESET abandons the run and the configuration, keeps what R168 keeps, and returns the fault mode to LATCHED
with every flag kept (R18, R36, R51, R67, R87, R116, R139, R157, R168, R177, R181). The model's choices in the exact next
state: the lane pins stay (log 12), the DRAM's list is emptied (log 13), a held STOP is forgotten (log 23), the captured
tag stays (log 31), and so does the last unit sent (log 21). -/
def Obligations.SoftResetAbandons : Prop :=
  ∀ s : State, s.resetHeld = false → s.port.phase = .command →
    exec .softReset s = .next
      { s with
        intake := { State.reset.intake with exhausted := s.intake.exhausted, laneOut := s.intake.laneOut }
        memory :=
          { s.memory with
            dram := []
            writeSlot := 0
            drainSlot := 0
            storedCount := 0
            staging := []
            op := s.memory.op.map fun u => { u with stale := true }
            readRequest := none
            owed := 0
            refreshTimer := none
            selfRefresh := s.memory.op.isNone }
        gaps := State.reset.gaps
        markers := State.reset.markers
        table := State.reset.table
        assembler := State.reset.assembler
        spine :=
          { s.spine with
            notes := []
            frames := if s.spine.port = .insertingFrame then s.spine.frames.take 1 else []
            hold := { notJoined := true } }
        presence := State.reset.presence
        station := { s.station with phase := .unconfigured, config := none }
        port := { phase := .reply, reply := [0x80] }
        faults := { s.faults with mode := .latched } }

/-! ### The management port -/

/-- Tier 1. The command byte names the command as R186's table has it, and fixes the number of its argument bytes. A
transaction moves from IDLE to COMMAND, ARGUMENTS, REPLY and DONE, and nothing else changes; a byte that names no command
gives the result 83h alone; bytes received in REPLY and DONE are ignored. SDO is at high impedance in IDLE and while RESET#
is asserted; it sends 00h in COMMAND, ARGUMENTS and DONE, and the reply's bytes in turn in REPLY (R170, R171, R186; the
reply field of the model stands from the instant the command takes effect and is empty in DONE, log 25). -/
def Obligations.TransactionMoves : Prop :=
  ((∀ code : Byte,
    commandOf code =
      (if code = 0x01 then .identify else if code = 0x02 then .commandByteReceived .loadConfig
       else if code = 0x03 then .readStatus else if code = 0x04 then .readFaults
       else if code = 0x05 then .commandByteReceived .setAlertMask else if code = 0x06 then .readCounters
       else if code = 0x07 then .commandByteReceived .readSegment
       else if code = 0x08 then .commandByteReceived .readGap
       else if code = 0x09 then .commandByteReceived .readPeer
       else if code = 0x0A then .commandByteReceived .rearmMarkers
       else if code = 0x0B then .stopRun else if code = 0x0C then .softReset else .unknownCommand code)) ∧
  (∀ c : ArgCommand, c.argumentBytes = if c = .loadConfig then 16 else 1) ∧
  (∀ (record : Vector Byte 16) (straps : BitVec 4),
    ArgCommand.loadConfig.taking record.toList straps = .loadConfig record straps) ∧
  ∀ (b : Byte) (straps : BitVec 4),
    ArgCommand.setAlertMask.taking [b] straps = .setAlertMask b ∧
    ArgCommand.readSegment.taking [b] straps = .readSegment b ∧
    ArgCommand.readGap.taking [b] straps = .readGap b ∧ ArgCommand.readPeer.taking [b] straps = .readPeer b ∧
    ArgCommand.rearmMarkers.taking [b] straps = .rearmMarkers b) ∧
  (∀ s : State, s.resetHeld = false → s.flagsFollow →
    (s.port.phase = .idle → exec .scsFall s = .next { s with port := { s.port with phase := .command } }) ∧
    (s.port.phase = .command → ∀ c : ArgCommand,
      exec (.commandByteReceived c) s = .next { s with port := { s.port with phase := .arguments c } }) ∧
    (s.port.phase = .reply →
      exec .lastReplyByteClockedOut s = .next { s with port := { phase := .done, reply := [] } }) ∧
    (s.port.phase = .command → ∀ code : Byte, (code = 0 ∨ 12 < code.toNat) →
      exec (.unknownCommand code) s = .next { s with port := { phase := .reply, reply := [0x83] } }) ∧
    ((s.port.phase = .reply ∨ s.port.phase = .done) → ∀ code : Byte, exec (commandOf code) s = .next s)) ∧
  ∀ (sent : Nat) (s : State),
    ((s.resetHeld = true ∨ s.port.phase = .idle) → s.sdo sent = none) ∧
    (s.resetHeld = false →
      ((s.port.phase = .command ∨ (∃ c, s.port.phase = .arguments c) ∨ s.port.phase = .done) →
        s.sdo sent = some 0x00) ∧
      (s.port.phase = .reply → sent < s.port.reply.length → s.sdo sent = s.port.reply[sent]?))

/-- Tier 1. IDENTIFY and READ STATUS reply with their records as the station stands, laid out as the formats say, and
change nothing else (R173, R188). -/
def Obligations.IdentifyAndStatusReplies : Prop :=
  ∀ s : State, s.resetHeld = false → s.flagsFollow → s.port.phase = .command →
    exec .identify s = .next
      { s with
        port :=
          { phase := .reply
            reply :=
              [0x80] ++ leBytes 4 s.station.deviceNumber.toNat ++
                [1, s.spine.strapSample.setWidth 8, s.station.startCount] } } ∧
    exec .readStatus s = .next
      { s with
        port :=
          { phase := .reply
            reply :=
              [0x80, stationCode s.station.phase, holdCode s.spine.hold, BitVec.ofNat 8 s.presence.demand.val,
                BitVec.ofNat 8 s.presence.effective.val] ++ leBytes 2 s.presence.fill ++
                leBytes 4 (s.memory.staging.length + s.memory.storedCount) ++
                [BitVec.ofNat 8 s.gaps.entries.length, BitVec.ofNat 8 s.table.live.length,
                  (match s.memory.thermal with
                    | .normal => 0
                    | .hot => 1
                    | .overtemp => 2),
                  BitVec.ofInt 8 s.memory.owed] ++
                leBytes 7
                  (match s.intake.phase with
                    | .idle => 0
                    | .taking => s.intake.point
                    | .ended => s.intake.ending.getD s.intake.point) ++
                leBytes 7 s.assembler.drain } }

/-- Tier 1. READ_COUNTERS, READ_SEGMENT, READ_GAP and READ_PEER reply with the record asked for, byte for byte, and with
the null or zero record where there is none; nothing else changes (R51, R86, R156, R174, R188). -/
def Obligations.TableReads : Prop :=
  ∀ s : State, s.resetHeld = false → s.flagsFollow →
    (s.port.phase = .command → ∃ reply, exec .readCounters s = .next { s with port := ⟨.reply, 0x80 :: reply⟩ } ∧
      reply = leBytes 4 s.counters.staged ++ leBytes 6 s.counters.gapSamples ++ leBytes 4 s.counters.forcedRefresh ++
        leBytes 4 s.counters.lateRefresh ++ leBytes 4 s.counters.corrected ++ leBytes 4 s.counters.uncorrectable ++
        leBytes 4 s.counters.suppressed ++ leBytes 4 s.counters.absorbed ++ leBytes 4 s.counters.clamped ++
        leBytes 4 s.counters.overflow ++ leBytes 4 s.counters.checkError ++ leBytes 4 s.counters.orphan ++
        leBytes 4 s.counters.unclaimed) ∧
    (s.port.phase = .arguments .readSegment → ∀ position : Byte, ∃ reply,
      exec (.readSegment position) s = .next { s with port := ⟨.reply, 0x80 :: reply⟩ } ∧ reply.length = 43 ∧
      ((position = 0 ∨ 63 < position.toNat) → reply = List.replicate 43 0) ∧
      (1 ≤ position.toNat → position.toNat ≤ 63 → 1 ≤ s.table.head → s.table.head ≤ 63 →
        (s.table.live[(position.toNat + 63 - s.table.head) % 63]? = none → reply = List.replicate 43 0) ∧
        ∀ g, s.table.live[(position.toNat + 63 - s.table.head) % 63]? = some g →
          reply =
            [if g.ending = none then 0x01 else 0x02,
              BitVec.ofNat 8
                ((if g.ending.isSome then 1 else 0) + (if g.requested.isSome then 2 else 0) +
                  (if g.levels.isSome then 4 else 0)),
              g.origin,
              (match g.cause with
                | .runStart => 0x00
                | .boundary (.localLine line) => BitVec.ofNat 8 (0x10 + line.val)
                | .boundary (.peerLine line) => BitVec.ofNat 8 (0x20 + line.val))] ++
              leBytes 2 g.seq.toNat ++ leBytes 6 g.start ++ leBytes 6 (g.ending.getD 0) ++
              leBytes 6 (g.requested.getD 0) ++ leBytes 4 g.dataFrames ++ leBytes 4 g.gapFrames ++
              leBytes 7 g.gapSamples ++
              (match g.levels with
                | some r => [BitVec.ofNat 8 r.lowest.val, BitVec.ofNat 8 r.highest.val]
                | none => [0x00, 0x00]) ++
              leBytes 2 g.absorbed)) ∧
    (s.port.phase = .arguments .readGap → ∀ position : Byte, ∃ reply,
      exec (.readGap position) s = .next { s with port := ⟨.reply, 0x80 :: reply⟩ } ∧ reply.length = 30 ∧
      (s.gaps.entries.length ≤ position.toNat → reply = List.replicate 30 0) ∧
      ∀ e, s.gaps.entries[position.toNat]? = some e →
        reply =
          [if e.isOpen then 0x01 else 0x02,
            (match e.cause with
              | .lane => 0x01
              | .thermal => 0x02
              | .ringFull => 0x03
              | .portBusy => 0x04),
            BitVec.ofNat 8 ((if e.heldFlag then 1 else 0) + (if e.heldPart.isSome then 2 else 0)), 0x00] ++
            leBytes 6 e.first ++ leBytes 7 e.count ++
            (match e.heldPart with
              | some h => leBytes 6 h.first ++ leBytes 7 h.count
              | none => List.replicate 13 0)) ∧
    (s.port.phase = .arguments .readPeer → ∀ address : Byte, ∃ reply,
      exec (.readPeer address) s = .next { s with port := ⟨.reply, 0x80 :: reply⟩ } ∧ reply.length = 16 ∧
      (address = 0 → s.presence.ingest = none → reply = List.replicate 16 0) ∧
      (∀ r, address = 0 → s.presence.ingest = some r →
        reply =
          [0x01, BitVec.ofNat 8 r.level.val, (if r.hold then 0x01 else 0x00), 0x00] ++ leBytes 2 r.seq.toNat ++
            [BitVec.ofNat 8 r.age] ++ List.replicate 9 0) ∧
      (15 ≤ address.toNat → reply = List.replicate 16 0) ∧
      (1 ≤ address.toNat → address.toNat ≤ 14 → s.spine.ownAddress = some address → reply = List.replicate 16 0) ∧
      ∀ e, 1 ≤ address.toNat → address.toNat ≤ 14 → s.spine.ownAddress ≠ some address →
        s.presence.peers[address.toNat - 1]? = some e →
        reply =
          [(match e.phase with
              | .absent => 0x00
              | .live => 0x01
              | .stale => 0x02
              | .mismatched => 0x03),
            BitVec.ofNat 8 e.demand.val] ++ leBytes 2 e.fill.toNat ++
            [e.runTag, e.rateClass, BitVec.ofNat 8 e.age, 0x00] ++ leBytes 2 e.lastSeq.toNat ++ List.replicate 6 0)

/-- Tier 2. READ_FAULTS replies with the snapshot and forms the clear list; SET_ALERT_MASK replaces the mask whole, and ALERT#
follows the unmasked groups; at the rise of SCS# the transaction ends, and only in DONE are the flags of the clear list
whose condition is absent cleared (R171, R178, R180, R186, R188). -/
def Obligations.FaultReadAndMask : Prop :=
  (∀ s : State, s.resetHeld = false → s.flagsFollow →
    (s.port.phase = .command →
      exec .readFaults s = .next
        { s with
          port :=
            { phase := .reply
              reply :=
                [0x80] ++ leBytes 4 s.faults.flags.toNat ++
                  [(match s.faults.mode with
                    | .latched => 0
                    | .live => 1), s.faults.alertMask.setWidth 8, rejectionCode s.station.lastRejection] }
          faults := { s.faults with clearList := some s.faults.flags } }) ∧
    (s.port.phase = .arguments .setAlertMask → ∀ mask : Byte, ∃ t, exec (.setAlertMask mask) s = .next t ∧
      t = { s with
            port := { phase := .reply, reply := [0x80] }
            faults := { s.faults with alertMask := mask.setWidth 6 } } ∧
      (t.alert = true ↔
        ∃ g < 6, mask.getLsbD g = false ∧ s.faults.flags &&& (groupFlags.getD g 0) ≠ 0))) ∧
  ∀ s : State, s.resetHeld = false → s.flagsFollow →
    exec .scsRise s = .next
      { s with
        port := { phase := .idle, reply := [] }
        faults :=
          { s.faults with
            flags :=
              if s.port.phase = .done then
                s.faults.flags &&& ~~~((s.faults.clearList.getD 0) &&& ~~~s.conditions)
              else s.faults.flags
            clearList := none } }

/-- Tier 2. REARM_MARKERS reaches each enabled line its mask names: a set latch is cleared, and the line is ARMED in RUN
and OFF elsewhere; every other line stays as it is (R61, R172). -/
def Obligations.RearmMarkersReachesNamedLines : Prop :=
  ∀ (mask : Byte) (s : State), s.resetHeld = false → s.flagsFollow → s.port.phase = .arguments .rearmMarkers →
    ∃ t, exec (.rearmMarkers mask) s = .next t ∧ sameBut [.markers, .port] s t ∧
      t.port = { phase := .reply, reply := [0x80] } ∧
      t.markers = { s.markers with lines := t.markers.lines } ∧
      ∀ line : Fin 4,
        t.markers.lines.get line =
          if mask.getLsbD line.val = true ∧ (s.enabledSetup line).isSome = true ∧
              (s.markers.lines.get line).latch = true then
            { phase := if s.station.phase = .run then .armed else .off }
          else s.markers.lines.get line

/-! ### Configuration -/

/-- Tier 2. A record that passes the five tests of R159 is accepted: JOINING, a new incarnation, the record in force, the
DRAM out of self-refresh and pulling refresh in on a free port with nothing waiting, the pace tick running, the straps
sampled and the entry at the own address ABSENT (R31, R118, R146, R160, R177, R187). The first tick is a PACE_TICK command
that follows, not a part of the acceptance (log 5); the entry is cleared at the sample (log 17). -/
def Obligations.ConfigurationAccepted : Prop :=
  ∀ (record : Vector Byte 16) (straps : BitVec 4) (s : State), s.resetHeld = false → s.flagsFollow →
    s.port.phase = .arguments .loadConfig → s.station.phase = .unconfigured →
    byteAt record.toList 0 = 1 → codesInRange record.toList = true →
    1 ≤ straps.toNat → straps.toNat ≤ 14 →
    ¬((byteAt record.toList 3).toNat = 0 ∧ (byteAt record.toList 4).toNat = 2) →
    ¬((byteAt record.toList 3).toNat = 2 ∧ (byteAt record.toList 4).toNat = 0) →
    1024 * 2 ^ (byteAt record.toList 1).toNat ≤ 4096 * 2 ^ (byteAt record.toList 4).toNat →
    ∃ t c, exec (.loadConfig record straps) s = .next t ∧
      t.station = { s.station with phase := .joining, config := some c, incarnation := s.station.incarnation + 1 } ∧
      c.channelCode.val = (byteAt record.toList 1).toNat ∧ c.rateClass.val = (byteAt record.toList 2).toNat ∧
      c.spineRate.val = (byteAt record.toList 3).toNat ∧ c.payloadCode.val = (byteAt record.toList 4).toNat ∧
      c.holdCode.val = (byteAt record.toList 5).toNat ∧
      c.faultMode = (if byteAt record.toList 6 = 1 then .live else .latched) ∧
      (∀ line : Fin 4,
        (c.lines.get line).enabled = (byteAt record.toList (8 + line.val)).getLsbD 0 ∧
        (c.lines.get line).polarity = (if (byteAt record.toList (8 + line.val)).getLsbD 1 then .falling else .rising) ∧
        (c.lines.get line).qualification.val = (byteAt record.toList (8 + line.val)).toNat / 4 % 4 ∧
        (c.lines.get line).rearm = (if (byteAt record.toList (8 + line.val)).getLsbD 4 then .auto else .manual)) ∧
      t.capacity = 2 ^ 24 / 2 ^ (byteAt record.toList 1).toNat ∧
      t.spine.ownAddress = some (straps.setWidth 8) ∧ t.spine.strapSample = straps ∧
      t.spine.hold = { s.spine.hold with notJoined := true } ∧
      t.memory.selfRefresh = false ∧ t.memory.owed = 0 ∧
      t.memory.refreshTimer = some (if s.memory.thermal = .normal then 3900 else 1950) ∧
      (s.memory.op = none → s.memory.staging = [] → s.memory.readRequest = none →
        t.memory.op = some { op := .refresh .pullIn }) ∧
      (s.memory.op.isSome = true → t.memory.op = s.memory.op) ∧
      t.presence =
        { s.presence with
          ticking := true
          returnCounter := 0
          joined := false
          peers := s.presence.peers.set (straps.toNat - 1) { phase := .absent } } ∧
      (∀ line : Fin 4, t.markers.lines.get line = {}) ∧
      t.port = { phase := .reply, reply := [0x80] } ∧ t.faults.mode = c.faultMode ∧ t.flagsFollow ∧
      sameBut [.memory, .markers, .spine, .presence, .station, .port, .faults] s t

/-- Tier 2. Outside UNCONFIGURED a LOAD_CONFIG is refused with 81h; in UNCONFIGURED a record is refused with 82h and the
reason of the first test of R159 it fails, which is recorded and flagged. The straps are sampled at both, as R118 says,
the entry at an address that becomes the own one is ABSENT (R146; at the sample, log 17), and nothing else changes but the
flags that follow the peer table's conditions (R176, R177). -/
def Obligations.ConfigurationRefused : Prop :=
  ∀ (record : Vector Byte 16) (straps : BitVec 4) (s : State), s.resetHeld = false → s.flagsFollow →
    s.port.phase = .arguments .loadConfig →
    (s.station.phase ≠ .unconfigured →
      ∃ t, exec (.loadConfig record straps) s = .next t ∧
        t.spine =
          { s.spine with
            strapSample := straps
            ownAddress :=
              if 1 ≤ straps.toNat ∧ straps.toNat ≤ 14 then some (straps.setWidth 8) else s.spine.ownAddress } ∧
        t.presence =
          { s.presence with
            peers :=
              if 1 ≤ straps.toNat ∧ straps.toNat ≤ 14 then s.presence.peers.set (straps.toNat - 1) { phase := .absent }
              else s.presence.peers } ∧
        t.port = { phase := .reply, reply := [0x81] } ∧ (s.faults.mode = .latched → t.faults = s.faults) ∧
        t.flagsFollow ∧ sameBut [.spine, .presence, .port, .faults] s t) ∧
    (s.station.phase = .unconfigured → ∀ reason : Rejection, reason ≠ .none →
      reason =
        (if byteAt record.toList 0 ≠ 1 ∨ codesInRange record.toList = false then .badCode
         else if straps.toNat = 0 ∨ straps.toNat = 15 then .badAddress
         else if ((byteAt record.toList 3).toNat = 0 ∧ (byteAt record.toList 4).toNat = 2) ∨
              ((byteAt record.toList 3).toNat = 2 ∧ (byteAt record.toList 4).toNat = 0) then .reservedCombination
         else if 4096 * 2 ^ (byteAt record.toList 4).toNat < 1024 * 2 ^ (byteAt record.toList 1).toNat then
          .payloadTooSmall
         else .none) →
      ∃ t, exec (.loadConfig record straps) s = .next t ∧
        t.spine =
          { s.spine with
            strapSample := straps
            ownAddress := if 1 ≤ straps.toNat ∧ straps.toNat ≤ 14 then some (straps.setWidth 8) else none } ∧
        t.presence =
          { s.presence with
            peers :=
              if 1 ≤ straps.toNat ∧ straps.toNat ≤ 14 then s.presence.peers.set (straps.toNat - 1) { phase := .absent }
              else s.presence.peers } ∧
        t.station = { s.station with lastRejection := reason } ∧
        t.port =
          { phase := .reply
            reply :=
              [0x82,
                (match reason with
                  | .none => 0x00
                  | .reservedCombination => 0x01
                  | .payloadTooSmall => 0x02
                  | .badCode => 0x03
                  | .badAddress => 0x04)] } ∧
        t.faults.flags.getLsbD 2 = true ∧
        (s.faults.mode = .latched → t.faults = s.faults.raise (Flag.mask .configRejected true)) ∧ t.flagsFollow ∧
        sameBut [.spine, .presence, .station, .port, .faults] s t)

/-! ### Runs -/

/-- Tier 2. A START edge in UNCONFIGURED, RUN or FLUSH is missed: the start count rises by 1, START_MISSED is set and
nothing else changes; the run tag follows the start count in UNCONFIGURED and stays in RUN and FLUSH (R161, R163). -/
def Obligations.StartMissed : Prop :=
  ∀ s : State, s.resetHeld = false → s.flagsFollow →
    (s.station.phase = .unconfigured ∨ s.station.phase = .run ∨ s.station.phase = .flush) →
    ∃ t, exec .startEdge s = .next t ∧
      t = { s with
            station := { s.station with startCount := s.station.startCount + 1 }
            faults := s.faults.raise (Flag.mask .startMissed true) } ∧
      t.faults.flags.getLsbD 1 = true ∧
      (s.station.phase = .unconfigured → t.runTag = s.station.startCount + 1) ∧
      (s.station.phase ≠ .unconfigured → t.runTag = s.runTag)

/-- Tier 2. A START edge in JOINING, READY or DONE begins a run (R5, R38, R51, R55, R64, R80, R114, R161, R162). -/
def Obligations.StartBeginsRun : Prop :=
  ∀ s : State, s.resetHeld = false → s.flagsFollow →
    (s.station.phase = .joining ∨ s.station.phase = .ready ∨ s.station.phase = .done) →
    ∃ t, exec .startEdge s = .next t ∧
      t.station =
        { s.station with
          phase := .run
          startCount := s.station.startCount + 1
          capturedTag := s.station.startCount + 1 } ∧
      t.runTag = s.station.startCount + 1 ∧
      t.intake = { State.reset.intake with phase := .taking, laneOut := s.intake.laneOut } ∧
      t.memory = { s.memory with writeSlot := 0, drainSlot := 0 } ∧ t.gaps = State.reset.gaps ∧
      t.markers.nextSeq = 1 ∧ t.markers.lastSeq = 0 ∧ t.markers.window = s.markers.window ∧
      (∀ line : Fin 4,
        t.markers.lines.get line =
          { phase := if (s.enabledSetup line).isSome then .armed else .off, latch := false }) ∧
      t.table =
        { queue := [], head := 1, live := [{ origin := 0, seq := 0, cause := .runStart, start := 0 }] } ∧
      t.assembler = { s.assembler with drain := 0, frameSeq := 0, flushTimer := .running } ∧
      (s.faults.mode = .latched → t.faults = s.faults) ∧ t.flagsFollow ∧
      sameBut [.intake, .memory, .gaps, .markers, .table, .assembler, .station, .faults] s t

/-- Tier 2. Outside RUN a STOP line edge has no effect and STOP_RUN is refused with 81h; at intake point 0 in RUN the STOP
is held, and STOP_RUN gives OK (R15, R164). -/
def Obligations.StopOutsideRunOrHeld : Prop :=
  ∀ s : State, s.resetHeld = false → s.flagsFollow →
    (s.station.phase ≠ .run → exec .stopEdge s = .next s ∧
      (s.port.phase = .command →
        exec .stopRun s = .next { s with port := { phase := .reply, reply := [0x81] } })) ∧
    (s.station.phase = .run → s.intake.point = 0 →
      exec .stopEdge s = .next { s with intake := { s.intake with stopHeld := true } } ∧
      (s.port.phase = .command →
        exec .stopRun s = .next
          { s with
            intake := { s.intake with stopHeld := true }
            port := { phase := .reply, reply := [0x80] } }))

/-- Tier 2. A STOP in RUN past intake point 0 ends the run: the intake ends at its point, a partial block is decided like
any other, every line is OFF with its latch kept, the newest Gap List entry is CLOSED, the Boundary Queue is empty with
every request that waited beyond the end absorbed, the OPEN segment is CLOSED at the sample before the end (so is a later
one split from it), and the station is in FLUSH, or in DONE where nothing is left to drain
(R15, R45, R55, R58, R70, R81, R164, R166). -/
def Obligations.StopEndsTheRun : Prop :=
  ∀ (c : Instr) (s : State), s.resetHeld = false → s.station.phase = .run → s.intake.point ≠ 0 →
    (c = .stopEdge ∨ (c = .stopRun ∧ s.port.phase = .command)) →
    ∃ t, exec c s = .next t ∧
      t.intake =
        { s.intake with
          phase := .ended
          ending := some s.intake.point
          filling := []
          laneMark := false
          stopHeld := false } ∧
      (t.station.phase = .flush ∨ (t.station.phase = .done ∧ t.flushed = true)) ∧
      t.station = { s.station with phase := t.station.phase } ∧
      (∀ line : Fin 4,
        t.markers.lines.get line = { phase := .off, latch := (s.markers.lines.get line).latch }) ∧
      t.markers = { s.markers with lines := t.markers.lines } ∧
      t.gaps.overrun = false ∧ t.gaps.active = false ∧
      (∀ e, t.gaps.entries.getLast? = some e → e.isOpen = false) ∧
      t.table.queue = [] ∧
      ((∀ g, s.table.live.getLast? = some g → g.ending = none) →
        ∀ g, t.table.live.getLast? = some g → g.ending = some (s.intake.point - 1)) ∧
      ((∀ r ∈ s.table.queue, s.intake.point ≤ r.index) → s.counters.absorbed ≤ Config.counter32 →
        t.counters.absorbed = min Config.counter32 (s.counters.absorbed + s.table.queue.length)) ∧
      (∀ g before, s.table.queue = [] → s.spine.frames.length = 4 → s.table.live = before ++ [g] → g.ending = none →
        t.table.live = before ++ [{ g with ending := some (s.intake.point - 1) }]) ∧
      t.memory.staging =
        (if s.intake.point % 512 ≠ 0 ∧ decideBlock s = .stage then
          s.memory.staging ++
            [{ number := s.intake.point / 512, fill := s.intake.point % 512, samples := s.intake.filling }]
         else s.memory.staging) ∧
      t.counters.gapSamples =
        (if s.intake.point % 512 ≠ 0 ∧ decideBlock s ≠ .stage then
          min Config.counter48 (s.counters.gapSamples + s.intake.point % 512)
         else s.counters.gapSamples) ∧
      (c = .stopRun → t.port = { phase := .reply, reply := [0x80] }) ∧ (c = .stopEdge → t.port = s.port) ∧
      sameBut ([.intake, .markers, .port] ++ drainParts) s t

/-- Tier 2. FLUSH_COMPLETE enters DONE when the six facts of R165 hold in FLUSH, stops the flush-age timer, and makes the
start count the run tag (R165, R166). Otherwise it changes nothing: the facts are judged again by a command of their own
(log 1, 3, the model's choice). -/
def Obligations.FlushCompletes : Prop :=
  ∀ s : State, s.resetHeld = false → s.flagsFollow →
    (s.station.phase = .flush → s.memory.staging = [] → s.memory.storedCount = 0 → s.gaps.entries = [] →
      s.table.queue = [] → s.table.live = [] → s.assembler.phase = .idle → s.spine.frames = [] →
      ∃ t, exec .flushComplete s = .next t ∧
        t = { s with
              station := { s.station with phase := .done }
              assembler := { s.assembler with flushTimer := .stopped } } ∧
        t.runTag = s.station.startCount) ∧
    ((s.station.phase ≠ .flush ∨ 0 < s.held ∨ s.gaps.entries ≠ [] ∨ s.table.queue ≠ [] ∨ s.table.live ≠ [] ∨
        s.assembler.phase ≠ .idle ∨ s.spine.frames ≠ []) →
      exec .flushComplete s = .next s)

/-! ### Sample intake -/

/-- Tier 2. A sample set presented in IDLE or ENDED is discarded without effect (R1, R4). One taken within a block: the enabled
lanes' samples join the block, the lane-fault mark follows R3, and the intake point advances by 1 (R1, R3, R6). With no
boundary request waiting nothing else changes; one whose clamped index is not yet taken waits on; one whose index the set
brings below the intake point is applied at it (R71 to R73, R76; with the frame part full, so that no frame starts). -/
def Obligations.SampleSetWritten : Prop :=
  (∀ (lanes : Vector Sample 8) (s : State), s.resetHeld = false → s.flagsFollow → s.intake.phase ≠ .taking →
    exec (.sampleSetTaken lanes) s = .next s) ∧
  ∀ (lanes : Vector Sample 8) (s : State), s.resetHeld = false → s.flagsFollow → s.intake.phase = .taking →
    (s.intake.point + 1) % 512 ≠ 0 → s.intake.stopHeld = false →
    ∃ t, exec (.sampleSetTaken lanes) s = .next t ∧
      t.intake =
        { s.intake with
          point := s.intake.point + 1
          laneMark := (decide (s.intake.point % 512 ≠ 0) && s.intake.laneMark) || s.laneFault
          filling :=
            if s.intake.point % 512 = 0 then (lanes.toList.take s.channels).map fun x => [x]
            else List.zipWith (fun channel x => channel ++ [x]) s.intake.filling (lanes.toList.take s.channels) } ∧
      sameBut (.intake :: drainParts) s t ∧ DrainKeeps s t ∧
      (s.table.queue = [] → sameBut [.intake] s t) ∧
      ∀ r rest g, s.table.queue = r :: rest → s.table.live.getLast? = some g → s.station.phase = .run →
        (max r.index (max g.start s.assembler.drain) ≠ g.start →
          s.intake.point + 1 ≤ max r.index (max g.start s.assembler.drain) → sameBut [.intake] s t) ∧
        (rest = [] → g.start < r.index → s.assembler.drain ≤ r.index → r.index ≤ s.intake.point →
          s.table.live.length < 63 → s.spine.frames.length = 4 →
          t.table =
            { s.table with
              queue := []
              live :=
                s.table.live.dropLast ++
                  [{ g with ending := some (r.index - 1) },
                    { origin := r.origin, seq := r.seq, cause := .boundary r.cause, start := r.index,
                      ending := none, requested := none }] })

/-- Tier 2. The first step of R10 whose condition holds decides a block. The sample set at a block's last index
completes the block, which is staged or dropped once, with the counts of R12 and R13; a block staged at a free port
starts the first claim of R27, before any frame that the closed Gap List lets start at the same event (log 4, the
model's choice); with the frame part full (no frame can start) the Gap List takes the decision, as GapListLosesNoIndex
spells it, and nothing more (R6, R9, R10, R12, R13, R27). -/
def Obligations.BlockDecided : Prop :=
  (∀ s : State,
    (s.gaps.overrun = true → s.gaps.entries.length = 32 → decideBlock s = .held) ∧
    ((s.gaps.overrun = false ∨ s.gaps.entries.length < 32) →
      (s.intake.laneMark = true → decideBlock s = .drop .lane) ∧
      (s.intake.laneMark = false → s.memory.thermal = .overtemp → decideBlock s = .drop .thermal) ∧
      (s.intake.laneMark = false → s.memory.thermal ≠ .overtemp → s.held = s.capacity →
        decideBlock s = .drop .ringFull) ∧
      (s.intake.laneMark = false → s.memory.thermal ≠ .overtemp → s.held < s.capacity →
        s.memory.staging.length = 32 → decideBlock s = .drop .portBusy) ∧
      (s.intake.laneMark = false → s.memory.thermal ≠ .overtemp → s.held < s.capacity →
        s.memory.staging.length < 32 → decideBlock s = .stage))) ∧
  ∀ (lanes : Vector Sample 8) (s : State), s.resetHeld = false → s.intake.phase = .taking →
    (s.intake.point + 1) % 512 = 0 → s.intake.point + 1 ≠ 2 ^ 48 → s.intake.stopHeld = false →
    ∃ t d, exec (.sampleSetTaken lanes) s = .next t ∧ d = decideBlock (writeSample lanes s) ∧
      t.intake = { s.intake with point := s.intake.point + 1, laneMark := false, filling := [] } ∧
      (d = .stage →
        t.memory.staging =
          s.memory.staging ++
            [{ number := s.intake.point / 512, fill := 512, samples := (writeSample lanes s).intake.filling }] ∧
        t.counters.staged = min Config.counter32 (s.counters.staged + 1) ∧
        t.counters.gapSamples = s.counters.gapSamples ∧ t.held = s.held + 1 ∧
        (s.memory.op.isSome = true → t.memory.op = s.memory.op) ∧
        (s.memory.op = none → s.memory.selfRefresh = false →
          t.memory.op = some { op := if s.memory.owed = 8 then .refresh .forced else .write })) ∧
      (d ≠ .stage →
        t.memory.staging = s.memory.staging ∧ t.counters.staged = s.counters.staged ∧
        t.counters.gapSamples = min Config.counter48 (s.counters.gapSamples + 512) ∧ t.held = s.held) ∧
      (s.spine.frames.length = 4 → s.station.phase = .run →
        t.gaps = s.gaps.decided d (512 * (s.intake.point / 512)) 512 ∧ t.spine = s.spine ∧
        t.assembler = s.assembler) ∧
      sameBut (.intake :: drainParts) s t

/-- Tier 2. The run ends at the sample set that a held STOP waits for, with intake end 1 (R15), and at index 2^48 - 1, with
intake end 2^48 and INDEX_EXHAUSTED (R16). Its last block is decided as any other: block 0 with fill count 1, and block
2^39 - 1 with fill count 512. The Gap List and the Boundary Queue are closed out, and the OPEN segment ends at the last
sample (R45, R81). -/
def Obligations.LastSampleEndsTheRun : Prop :=
  ∀ (lanes : Vector Sample 8) (s : State), s.resetHeld = false → s.flagsFollow → s.intake.phase = .taking →
    ∀ exhausted : Bool,
      (exhausted = true ∧ s.intake.point + 1 = 2 ^ 48 ∨
        exhausted = false ∧ s.intake.point = 0 ∧ s.intake.stopHeld = true) →
      ∃ t, exec (.sampleSetTaken lanes) s = .next t ∧
        t.intake =
          { s.intake with
            phase := .ended
            point := s.intake.point + 1
            ending := some (s.intake.point + 1)
            filling := []
            laneMark := false
            stopHeld := false
            exhausted := exhausted || s.intake.exhausted } ∧
        (exhausted = true → t.faults.flags.getLsbD 3 = true) ∧
        (t.station.phase = .flush ∨ (t.station.phase = .done ∧ t.flushed = true)) ∧
        (∀ line : Fin 4, (t.markers.lines.get line).phase = .off) ∧
        (∀ d number fill, d = decideBlock (writeSample lanes s) →
          (if exhausted = true then number = 2 ^ 39 - 1 ∧ fill = 512 else number = 0 ∧ fill = 1) →
          t.memory.staging =
            (if d = .stage then
              s.memory.staging ++
                [{ number := number, fill := fill, samples := (writeSample lanes s).intake.filling }]
             else s.memory.staging) ∧
          t.counters.staged =
            (if d = .stage then min Config.counter32 (s.counters.staged + 1) else s.counters.staged) ∧
          t.counters.gapSamples =
            (if d = .stage then s.counters.gapSamples else min Config.counter48 (s.counters.gapSamples + fill)) ∧
          (s.spine.frames.length = 4 → t.gaps = (s.gaps.decided d (512 * number) fill).runEnd)) ∧
        t.gaps.overrun = false ∧ t.gaps.active = false ∧
        (∀ e, t.gaps.entries.getLast? = some e → e.isOpen = false) ∧
        t.table.queue = [] ∧
        (s.station.phase = .run → (∀ g, s.table.live.getLast? = some g → g.ending = none) →
          ∀ g, t.table.live.getLast? = some g → g.ending = some s.intake.point) ∧
        sameBut ([.intake, .markers] ++ drainParts) s t

/-- Tier 2. A lane's alignment status is taken, and LANE_FAULT follows the enabled lanes (R2); no other bit and no other
part changes. -/
def Obligations.LaneAlignmentTaken : Prop :=
  ∀ (lane : Fin 8) (out : Bool) (s : State), s.resetHeld = false → s.flagsFollow →
    ∃ t, exec (.laneAlignmentChange lane out) s = .next t ∧
      t.intake = { s.intake with laneOut := t.intake.laneOut } ∧
      (∀ k : Fin 8, t.intake.laneOut.getLsbD k.val = if k = lane then out else s.intake.laneOut.getLsbD k.val) ∧
      (t.laneFault = true ↔ ∃ k : Fin 8, k.val < s.channels ∧ t.intake.laneOut.getLsbD k.val = true) ∧
      (t.laneFault = true → t.faults.flags.getLsbD 6 = true) ∧
      (s.faults.mode = .live → t.faults.flags.getLsbD 6 = t.laneFault) ∧
      sameBut [.intake, .faults] s t

/-! ### The Gap List -/

/-- Tier 2. The Gap List loses no index and invents none. A dropped report of cause and range a to a + k - 1 is recorded by
the first case of R42: it merges into the OPEN newest entry that it continues with the same cause, or is appended as a new
OPEN entry that closes the newest, or begins a held overrun on the newest of 32 entries (R43); in the overrun the held part
grows (R44). A staged report closes the newest entry (R41), and a run end closes out the list (R45). A GAP frame of k
indices advances the head entry's front range; a range wholly consumed gives way to the held part, which carries the held
flag, or the entry leaves (R47). Counted: each drop adds its k indices, a staged block none, a GAP frame takes its k. -/
def Obligations.GapListLosesNoIndex : Prop :=
  (∀ (a k : Nat) (cause : DropCause) (g : GapList),
    (g.entries = [] →
      g.decided .stage a k = { entries := [], overrun := false, active := false } ∧
      g.decided (.drop cause) a k =
        { entries := [{ first := a, count := k, cause := cause, isOpen := true, heldFlag := false, heldPart := none }]
          overrun := false
          active := true }) ∧
    ∀ before n, g.entries = before ++ [n] →
      g.decided .stage a k =
        { entries := before ++ [{ n with isOpen := false }], overrun := false, active := false } ∧
      g.runEnd = { entries := before ++ [{ n with isOpen := false }], overrun := false, active := false } ∧
      (n.isOpen = true → n.cause = cause → n.heldPart = none → n.first + n.count - 1 + 1 = a →
        g.decided (.drop cause) a k =
          { entries := before ++ [{ n with count := n.count + k }], overrun := false, active := true }) ∧
      (∀ h, n.isOpen = true → n.cause = cause → n.heldPart = some h → h.first + h.count - 1 + 1 = a →
        g.decided (.drop cause) a k =
          { entries := before ++ [{ n with heldPart := some { first := h.first, count := h.count + k } }]
            overrun := false
            active := true }) ∧
      ((n.isOpen = false ∨ n.cause ≠ cause ∨ n.finish + 1 ≠ a) →
        (g.entries.length < 32 →
          g.decided (.drop cause) a k =
            { entries :=
                before ++
                  [{ n with isOpen := false },
                    { first := a, count := k, cause := cause, isOpen := true, heldFlag := false, heldPart := none }]
              overrun := false
              active := true }) ∧
        (32 ≤ g.entries.length →
          g.decided (.drop cause) a k =
            { entries := before ++ [{ n with isOpen := true, heldPart := some { first := a, count := k } }]
              overrun := true
              active := true })) ∧
      ∀ h, n.heldPart = some h →
        g.decided .held a k =
          { entries := before ++ [{ n with heldPart := some { first := h.first, count := h.count + k } }]
            overrun := g.overrun
            active := true }) ∧
  (∀ n : GapEntry,
    (n.heldPart = none → n.finish = n.first + n.count - 1) ∧
    ∀ h, n.heldPart = some h → n.finish = h.first + h.count - 1) ∧
  (∀ (k : Nat) (e : GapEntry) (rest : List GapEntry) (g : GapList), g.entries = e :: rest →
    (k < e.count →
      g.consume k = { g with entries := { e with first := e.first + k, count := e.count - k } :: rest }) ∧
    (k = e.count → ∀ h, e.heldPart = some h →
      g.consume k =
        { g with
          entries :=
            { e with first := h.first, count := h.count, heldFlag := true, heldPart := none } :: rest }) ∧
    (k = e.count → e.heldPart = none → g.consume k = { g with entries := rest })) ∧
  (∀ (g : GapList) (a k : Nat), (g.decided .stage a k).indices = g.indices) ∧
  (∀ (g : GapList) (cause : DropCause) (a k : Nat),
    (∀ e, g.entries.getLast? = some e → g.entries.length = 32 → e.heldPart = none) → g.entries.length ≤ 32 →
    (g.decided (.drop cause) a k).indices = g.indices + k ∧ (g.decided (.drop cause) a k).entries.length ≤ 32) ∧
  (∀ (g : GapList) (a k : Nat), g.entries ≠ [] → (g.decided .held a k).indices = g.indices + k) ∧
  ∀ (g : GapList) (e : GapEntry) (rest : List GapEntry) (k : Nat), g.entries = e :: rest → k ≤ e.count →
    (g.consume k).indices + k = g.indices

/-! ### Marker lines -/

/-- Tier 2. An edge on an enabled line in RUN: an ARMED line starts qualification with the index just taken, 0 at intake
point 0, and the duration of its code; in RECOVERING it is the active level; in the other states it is ignored, as it is
on a disabled line and outside RUN. The inactive level cancels a qualification and starts the inactive hold of a LATCHED
AUTO line alone; the active level in the hold returns the line to LATCHED; the end of the hold clears the latch and arms
the line (R17, R52, R53, R54, R56, R57, R59, R60). In QUALIFYING the table of R54 has a dash at an edge: that it is ignored
there is the model's choice (log 1). -/
def Obligations.LineStates : Prop :=
  (∀ (line : Fin 4) (s : State), s.resetHeld = false → s.flagsFollow →
    (∀ setup, s.station.phase = .run → s.enabledSetup line = some setup →
      ((s.markers.lines.get line).phase = .armed →
        exec (.markerEdge line) s = .next
          { s with
            markers :=
              { s.markers with
                lines :=
                  s.markers.lines.set line
                    { s.markers.lines.get line with
                      phase := .qualifying
                      noted := some (if s.intake.point = 0 then 0 else s.intake.point - 1)
                      timing := some (8 * 2 ^ (3 + 4 * setup.qualification.val)) } } }) ∧
      ((s.markers.lines.get line).phase = .recovering →
        exec (.markerEdge line) s = .next
          { s with
            markers :=
              { s.markers with
                lines :=
                  s.markers.lines.set line { s.markers.lines.get line with phase := .latched, timing := none } } }) ∧
      ((s.markers.lines.get line).phase ≠ .armed → (s.markers.lines.get line).phase ≠ .recovering →
        exec (.markerEdge line) s = .next s)) ∧
    ((s.station.phase ≠ .run ∨ s.enabledSetup line = none) → exec (.markerEdge line) s = .next s)) ∧
  ∀ (line : Fin 4) (setup : LineSetup) (s : State), s.resetHeld = false → s.flagsFollow → s.station.phase = .run →
    s.enabledSetup line = some setup →
    ((s.markers.lines.get line).phase = .qualifying →
      exec (.markerInactiveLevel line) s = .next
        { s with
          markers :=
            { s.markers with
              lines :=
                s.markers.lines.set line
                  { s.markers.lines.get line with phase := .armed, noted := none, timing := none } } }) ∧
    ((s.markers.lines.get line).phase = .latched → setup.rearm = .auto →
      exec (.markerInactiveLevel line) s = .next
        { s with
          markers :=
            { s.markers with
              lines :=
                s.markers.lines.set line
                  { s.markers.lines.get line with
                    phase := .recovering
                    timing := some (8 * 2 ^ (3 + 4 * setup.qualification.val)) } } }) ∧
    ((s.markers.lines.get line).phase = .latched → setup.rearm = .manual →
      exec (.markerInactiveLevel line) s = .next s) ∧
    ((s.markers.lines.get line).phase = .recovering →
      exec (.markerActiveInRecovery line) s = .next
        { s with
          markers :=
            { s.markers with
              lines :=
                s.markers.lines.set line { s.markers.lines.get line with phase := .latched, timing := none } } } ∧
      exec (.markerRecoveryEnd line) s = .next
        { s with
          markers :=
            { s.markers with
              lines :=
                s.markers.lines.set line { phase := .armed, latch := false, noted := none, timing := none } } })

/-- Tier 2. A marker that qualifies with room in the window and in the note part is accepted: its line is LATCHED, it takes
the next sequence, its time joins the window and its note the note part (R57, R63, R64). In RUN, with no request queued,
a full frame part and an index inside the OPEN segment above the drain point, the segment is cut at its index (R69, R73). -/
def Obligations.MarkerAccepted : Prop :=
  ∀ (line : Fin 4) (now noted : Nat) (setup : LineSetup) (s : State), s.resetHeld = false → s.station.phase = .run →
    s.enabledSetup line = some setup → (s.markers.lines.get line).phase = .qualifying →
    (s.markers.lines.get line).noted = some noted → s.markers.window.length < 4 → s.spine.notes.length < 8 →
    ∃ t, exec (.markerQualify line now) s = .next t ∧
      t.markers =
        { lines := s.markers.lines.set line { phase := .latched, latch := true }
          window := s.markers.window ++ [now]
          lastSeq := s.markers.nextSeq
          nextSeq := if s.markers.nextSeq = 65535 then 1 else s.markers.nextSeq + 1 } ∧
      (s.spine.port ≠ .free →
        t.spine.notes = s.spine.notes ++ [{ origin := s.unitOrigin, body := .marker s.markers.nextSeq line noted }]) ∧
      (∀ g, s.table.queue = [] → s.table.live.getLast? = some g → s.table.live.length < 63 →
        g.start < noted → s.assembler.drain ≤ noted → noted < s.intake.point → s.spine.frames.length = 4 →
        (∀ h ∈ s.table.live, ¬(h.origin = s.unitOrigin.source ∧ h.seq = s.markers.nextSeq)) →
        t.table.queue = [] ∧
        t.table.live =
          s.table.live.dropLast ++
            [{ g with ending := some (noted - 1) },
              { origin := s.unitOrigin.source, seq := s.markers.nextSeq, cause := .boundary (.localLine line),
                start := noted, ending := none, requested := none }]) ∧
      sameBut (.markers :: drainParts) s t

/-- Tier 2. A marker that meets a full window or a full note part is suppressed: its line is LATCHED, the suppressed count
rises, MARKER_SUPPRESSED is set, and nothing else changes (R57, R63). An acceptance time leaves the window 1 ms after it
joined (R62; log 6). -/
def Obligations.MarkerSuppressedAndWindow : Prop :=
  (∀ (line : Fin 4) (now noted : Nat) (setup : LineSetup) (s : State), s.resetHeld = false → s.flagsFollow →
    s.station.phase = .run → s.enabledSetup line = some setup → (s.markers.lines.get line).phase = .qualifying →
    (s.markers.lines.get line).noted = some noted → (4 ≤ s.markers.window.length ∨ 8 ≤ s.spine.notes.length) →
    exec (.markerQualify line now) s = .next
      { s with
        markers :=
          { s.markers with lines := s.markers.lines.set line { phase := .latched, latch := true } }
        counters := { s.counters with suppressed := min Config.counter32 (s.counters.suppressed + 1) }
        faults := s.faults.raise (Flag.mask .markerSuppressed true) }) ∧
  ∀ (now time : Nat) (rest : List Nat) (s : State), s.resetHeld = false → s.flagsFollow →
    s.markers.window = time :: rest →
    (time + 1000000 ≤ now →
      exec (.markerWindowLeave now) s = .next { s with markers := { s.markers with window := rest } }) ∧
    (now < time + 1000000 → exec (.markerWindowLeave now) s = .next s)

/-! ### Segments and boundaries -/

/-- Tier 2. A request reaching the Boundary Queue is dropped as a duplicate, absorbed by a full queue, or inserted behind
every request whose index is at most its own, so that the queue stays in index order; one that comes to stand at the front
is considered at once, as BoundaryConsidered spells it (R68 to R71). -/
def Obligations.RequestsStayInOrder : Prop :=
  (∀ (r : Request) (s : State),
    ((∃ q ∈ s.table.queue, q.origin = r.origin ∧ q.seq = r.seq) ∨
      (∃ g ∈ s.table.live, g.origin = r.origin ∧ g.seq = r.seq) → arriveRequest r s = s) ∧
    ((∀ q ∈ s.table.queue, ¬(q.origin = r.origin ∧ q.seq = r.seq)) →
      (∀ g ∈ s.table.live, ¬(g.origin = r.origin ∧ g.seq = r.seq)) →
      (8 ≤ s.table.queue.length →
        (arriveRequest r s).table.queue = s.table.queue ∧
        (arriveRequest r s).counters.absorbed = min Config.counter32 (s.counters.absorbed + 1) ∧
        (arriveRequest r s).faults.flags.getLsbD 22 = true) ∧
      (∀ q rest, s.table.queue = q :: rest → q.index ≤ r.index → s.table.queue.length < 8 →
        arriveRequest r s = { s with table := { s.table with queue := insertRequest r s.table.queue } }) ∧
      (s.table.queue.length < 8 → (∀ q ∈ s.table.queue.head?, r.index < q.index) →
        arriveRequest r s = considerHead { s with table := { s.table with queue := r :: s.table.queue } }))) ∧
  ∀ (r : Request) (q : List Request), q.Pairwise (fun x y => x.index ≤ y.index) →
    (insertRequest r q).Pairwise (fun x y => x.index ≤ y.index) ∧ (insertRequest r q).Perm (r :: q) ∧
    (insertRequest r q).filter (fun x => decide (x.index = r.index)) =
      q.filter (fun x => decide (x.index = r.index)) ++ [r]

/-- Tier 2. A consideration judges the head request by the first outcome of R72. With no segment live it is absorbed. Else,
with m the index clamped to the last segment's start and the drain point: a coincident one is absorbed; one beyond the
limit waits in RUN and is absorbed otherwise; with the table full it is absorbed; else it cuts the last segment at m, the
new one OPEN in RUN and CLOSED otherwise, counted and flagged where m is not the requested index (R70 to R74). Then the
next request is head and is considered at the same event, until one waits or none is left. BOUNDARY_APPLY is such a
consideration, with what follows at the same event settled (its row beside the other commands' considerations, log 3). -/
def Obligations.BoundaryConsidered : Prop :=
  (∀ s : State, s.resetHeld = false → exec .boundaryApply s = .next (report s (settleFrom s (considerHead s)))) ∧
  (∀ s : State, s.table.queue = [] → considerHead s = s) ∧
  (∀ (r : Request) (rest : List Request) (s : State), s.table.queue = r :: rest → s.table.live = [] →
    considerHead s =
      considerHead
        { s with
          table := { s.table with queue := rest }
          counters := { s.counters with absorbed := min Config.counter32 (s.counters.absorbed + 1) }
          faults := s.faults.raise (Flag.mask .markerAbsorbed true) }) ∧
  ∀ (r : Request) (rest : List Request) (g : Segment) (before : List Segment) (m limit : Nat) (s : State),
    s.table.queue = r :: rest → s.table.live = before ++ [g] → m = max r.index (max g.start s.assembler.drain) →
    limit = (if s.station.phase = .run then s.intake.point else s.intake.ending.getD s.intake.point) →
    (m ≠ g.start → s.station.phase = .run → limit ≤ m → considerHead s = s) ∧
    (m = g.start →
      considerHead s =
        considerHead
          { s with
            table :=
              { s.table with
                queue := rest
                live := before ++ [{ g with absorbed := min 65535 (g.absorbed + 1) }] }
            counters := { s.counters with absorbed := min Config.counter32 (s.counters.absorbed + 1) } }) ∧
    (m ≠ g.start → (s.station.phase ≠ .run ∧ limit ≤ m ∨ m < limit ∧ 63 ≤ s.table.live.length) →
      considerHead s =
        considerHead
          { s with
            table :=
              { s.table with
                queue := rest
                live := before ++ [{ g with absorbed := min 65535 (g.absorbed + 1) }] }
            counters := { s.counters with absorbed := min Config.counter32 (s.counters.absorbed + 1) }
            faults := s.faults.raise (Flag.mask .markerAbsorbed true) }) ∧
    (m ≠ g.start → m < limit → s.table.live.length < 63 → m = r.index →
      considerHead s =
        considerHead
          { s with
            table :=
              { s.table with
                queue := rest
                live :=
                  before ++
                    [{ g with ending := some (m - 1) },
                      { origin := r.origin, seq := r.seq, cause := .boundary r.cause, start := m,
                        ending := if s.station.phase = .run then none else some (limit - 1), requested := none }] } }) ∧
    (m ≠ g.start → m < limit → s.table.live.length < 63 → m ≠ r.index →
      considerHead s =
        considerHead
          { s with
            table :=
              { s.table with
                queue := rest
                live :=
                  before ++
                    [{ g with ending := some (m - 1) },
                      { origin := r.origin, seq := r.seq, cause := .boundary r.cause, start := m,
                        ending := if s.station.phase = .run then none else some (limit - 1),
                        requested := some r.index }] }
            counters := { s.counters with clamped := min Config.counter32 (s.counters.clamped + 1) }
            faults := s.faults.raise (Flag.mask .boundaryClamped true) })

/-! ### Capture memory -/

/-- Tier 2. A block write completes: the head block leaves the Staging Buffer and is stored at the write slot, which
advances, from C - 1 to 0 at the wrap; every other slot and B are unchanged, and the completion brings the next grant
(R20, R21, R23, R27). That the grant goes to a claim that stood before the completion, ahead of the read request of a
frame that starts at the same event, is the model's choice (log 4). A frame that the stored block lets start, and a
flush completion, may follow at the same event: they reach the parts named, and leave the ring, the debt, the transit
path and the hold set. With the frame part full nothing else moves. -/
def Obligations.BlockWriteStores : Prop :=
  ∀ (b : Block) (rest : List Block) (s : State), s.resetHeld = false →
    s.memory.op = some { op := .write, stale := false } → s.memory.staging = b :: rest →
    ∃ t, exec .blockWriteComplete s = .next t ∧ t.memory.staging = rest ∧
      t.memory.storedCount = s.memory.storedCount + 1 ∧ t.held = s.held ∧
      t.memory.writeSlot = (if s.memory.writeSlot + 1 < s.capacity then s.memory.writeSlot + 1 else 0) ∧
      t.memory.drainSlot = s.memory.drainSlot ∧ t.memory.owed = s.memory.owed ∧
      dramRead s.memory.writeSlot t.memory.dram = some { block := b, corrected := 0, uncorrectable := false } ∧
      (∀ slot, slot ≠ s.memory.writeSlot → dramRead slot t.memory.dram = dramRead slot s.memory.dram) ∧
      t.spine.transit = s.spine.transit ∧ t.spine.hold = s.spine.hold ∧ t.memory.refreshTimer = s.memory.refreshTimer ∧
      (s.station.config.isSome = true → s.memory.selfRefresh = false → ∀ claim,
        claim = firstClaim s.memory.owed (!rest.isEmpty) s.memory.readRequest.isSome →
        (claim ≠ none → t.memory.op = granted claim) ∧
        (claim = none → t.memory.op = none ∨ t.memory.op = some { op := .read }) ∧
        t.counters.forcedRefresh =
          (if claim = some (.refresh .forced) then min Config.counter32 (s.counters.forcedRefresh + 1)
           else s.counters.forcedRefresh) ∧
        (claim = some (.refresh .forced) → t.faults.flags.getLsbD 7 = true)) ∧
      (s.spine.frames.length = 4 → sameBut [.memory, .counters, .faults] s t) ∧ sameBut drainParts s t

/-- Tier 2. A block read without an uncorrectable error gives the assembler the block: before the span's last block
each channel's samples of it within the span join what was gathered, themselves at level 0 and the pairs of their
groups above (the first group clipped where the span begins inside it, ReductionIsMinMax), and the next block is
requested, so that the read waits for its turn at the port; that this request takes part in the grant of the same
completion is the model's order (log 4). The corrected errors are counted, and the DRAM's blocks, the ring and B are
unchanged (R24, R27, R34, R104, R107; the errors of a slot add up, log 9). -/
def Obligations.BlockReadGathers : Prop :=
  ∀ (w : WorkingCopy) (number corrected lo hi size : Nat) (x : Slot) (clip content : List Sample → List Sample)
    (s : State), s.resetHeld = false → s.flagsFollow →
    s.memory.op = some { op := .read, stale := false } → s.assembler.phase = .assembling w →
    s.memory.readRequest = some number → dramRead (s.readSlot w number) s.memory.dram = some x →
    x.uncorrectable = false → w.next < w.last / 512 → s.counters.uncorrectable ≤ Config.counter32 →
    lo = max w.first (512 * x.block.number) → hi = min w.last (512 * x.block.number + x.block.fill - 1) →
    size = 2 ^ (w.level.val + 1) →
    (∀ channel, clip channel = (channel.drop (lo - 512 * x.block.number)).take (hi + 1 - lo)) →
    (∀ channel,
      content channel =
        if w.level.val = 0 then clip channel else reduceSamples size (size - lo % size) none (clip channel)) →
    ∃ t, exec (.blockReadComplete corrected false) s = .next t ∧
      t.assembler =
        { s.assembler with
          phase :=
            .assembling
              { w with
                gathered := List.zipWith (fun old channel => old ++ content channel) w.gathered x.block.samples
                next := w.next + 1 } } ∧
      (s.station.config.isSome = true → s.memory.selfRefresh = false →
        t.memory.op = granted (firstClaim s.memory.owed (!s.memory.staging.isEmpty) true)) ∧
      t.memory.owed = s.memory.owed ∧
      t.memory.readRequest = some (w.next + 1) ∧
      (∀ slot, (dramRead slot t.memory.dram).map Slot.block = (dramRead slot s.memory.dram).map Slot.block) ∧
      t.memory.storedCount = s.memory.storedCount ∧ t.memory.drainSlot = s.memory.drainSlot ∧
      t.memory.writeSlot = s.memory.writeSlot ∧ t.memory.staging = s.memory.staging ∧
      t.counters.corrected = min Config.counter32 (s.counters.corrected + (x.corrected + corrected)) ∧
      t.counters.uncorrectable = s.counters.uncorrectable ∧
      sameBut [.memory, .assembler, .counters, .faults] s t

/-- Tier 2. The last read of a span completes the DATA frame: it takes the next sequence and joins the frame part. Its
payload is the content of channel 0, then of channel 1 and so on, each word little-endian, padded with zero bytes to a
multiple of 4. The blocks of the span whose last samples it covers are released in order: of k + 1 blocks that stand in the
slots from the drain slot on, all, or all but the last where the span stops inside it; B and the stored count fall by their
number, the drain slot passes them, and the slots' contents stay. With it the frame part full, the drain stops there and
the segment counts it (R25, R92, R103, R104, R106 to R110, R184). -/
def Obligations.DataFrameCompletes : Prop :=
  ∀ (w : WorkingCopy) (number corrected lo hi size : Nat) (x : Slot) (clip content : List Sample → List Sample)
    (words : List Sample) (s : State), s.resetHeld = false →
    s.memory.op = some { op := .read, stale := false } → s.assembler.phase = .assembling w →
    s.memory.readRequest = some number → dramRead (s.readSlot w number) s.memory.dram = some x →
    x.uncorrectable = false → w.last / 512 ≤ w.next →
    lo = max w.first (512 * x.block.number) → hi = min w.last (512 * x.block.number + x.block.fill - 1) →
    size = 2 ^ (w.level.val + 1) →
    (∀ channel, clip channel = (channel.drop (lo - 512 * x.block.number)).take (hi + 1 - lo)) →
    (∀ channel,
      content channel =
        if w.level.val = 0 then clip channel else reduceSamples size (size - lo % size) none (clip channel)) →
    words = (List.zipWith (fun old channel => old ++ content channel) w.gathered x.block.samples).flatten →
    ∃ t f, exec (.blockReadComplete corrected false) s = .next t ∧ (s.spine.frames ++ [f]) <+: t.spine.frames ∧
      f = { origin := s.unitOrigin, seq := s.assembler.frameSeq, segOrigin := w.origin, segSeq := w.seq,
            body :=
              .data w.first (w.last + 1 - w.first) w.level s.channels
                (if w.level.val = 0 then 0 else w.first % 2 ^ (w.level.val + 1))
                (if w.level.val = 0 then 0
                 else w.last / 2 ^ (w.level.val + 1) - w.first / 2 ^ (w.level.val + 1) + 1)
                ((words.flatMap fun word => [BitVec.ofNat 8 word.toNat, BitVec.ofNat 8 (word.toNat / 256)]) ++
                  if words.length % 2 = 0 then [] else [0x00, 0x00]) } ∧
      (∀ (k released : Nat) (y : Slot), k = w.last / 512 - w.first / 512 →
        (∀ i < k, ∃ z, dramRead ((s.memory.drainSlot + i) % s.capacity) s.memory.dram = some z ∧
          z.block.number = w.first / 512 + i ∧ z.block.fill = 512) →
        dramRead ((s.memory.drainSlot + k) % s.capacity) s.memory.dram = some y → y.block.number = w.last / 512 →
        k < s.memory.storedCount → s.memory.drainSlot < s.capacity →
        released = (if 512 * y.block.number + y.block.fill - 1 ≤ w.last then k + 1 else k) →
        t.memory.storedCount = s.memory.storedCount - released ∧ t.held + released = s.held ∧
        t.memory.drainSlot = (s.memory.drainSlot + released) % s.capacity) ∧
      t.memory.storedCount ≤ s.memory.storedCount ∧ t.memory.staging = s.memory.staging ∧
      t.memory.writeSlot = s.memory.writeSlot ∧
      (∀ slot, (dramRead slot t.memory.dram).map Slot.block = (dramRead slot s.memory.dram).map Slot.block) ∧
      (s.spine.frames.length = 3 →
        t.spine.frames = s.spine.frames ++ [f] ∧ t.assembler.phase = .idle ∧
        t.assembler.frameSeq = s.assembler.frameSeq + 1 ∧ t.assembler.flushTimer = .running ∧
        t.assembler.drain = s.assembler.drain ∧ t.table.queue = s.table.queue ∧
        t.table.live = mapHead (Segment.countData w.level) s.table.live ∧ t.gaps = s.gaps) ∧
      sameBut drainParts s t

/-- Tier 2. An uncorrectable report cuts the DATA frame short: MEMORY_ERROR is set and counted; where the block begins past
the span's first index, the truncated frame is placed and, with the frame part then full, the MEMORY gap of the block's
samples waits with the drain point past it; where the block is the span's first and a slot is free, the MEMORY gap frame
itself is placed, and the block is released if its last sample is in the span (R25, R34, R111, R112). -/
def Obligations.ReadErrorTruncates : Prop :=
  ∀ (w : WorkingCopy) (number corrected u v : Nat) (x : Slot) (s : State), s.resetHeld = false →
    s.memory.op = some { op := .read, stale := false } → s.assembler.phase = .assembling w →
    s.memory.readRequest = some number → dramRead (s.readSlot w number) s.memory.dram = some x →
    u = max w.first (512 * x.block.number) → v = min w.last x.block.lastSample →
    ∃ t, exec (.blockReadComplete corrected true) s = .next t ∧ t.faults.flags.getLsbD 11 = true ∧
      t.counters.uncorrectable = min Config.counter32 (s.counters.uncorrectable + 1) ∧
      (w.first < u → s.spine.frames.length = 3 → s.table.queue = [] →
        t.spine.frames =
          s.spine.frames ++
            [{ origin := s.unitOrigin, seq := s.assembler.frameSeq, segOrigin := w.origin, segSeq := w.seq,
               body := dataBody s.channels { w with last := u - 1 } }] ∧
        t.assembler.phase = .pending { first := u, count := v - u + 1, origin := w.origin, seq := w.seq } ∧
        t.assembler.drain = v + 1 ∧ t.table.live = mapHead (Segment.countData w.level) s.table.live) ∧
      (u = w.first → s.spine.frames.length < 4 →
        (s.spine.frames ++
          [{ origin := s.unitOrigin, seq := s.assembler.frameSeq, segOrigin := w.origin, segSeq := w.seq,
             body := .gap u (v - u + 1) .memory false }]) <+: t.spine.frames) ∧
      (u = w.first → v = x.block.lastSample →
        t.memory.storedCount = s.memory.storedCount - 1 ∧
        t.memory.drainSlot = if s.memory.drainSlot + 1 < s.capacity then s.memory.drainSlot + 1 else 0) ∧
      (u = w.first → v ≠ x.block.lastSample →
        t.memory.storedCount = s.memory.storedCount ∧ t.memory.drainSlot = s.memory.drainSlot) ∧
      sameBut drainParts s t

/-- Tier 2. A refresh completion lowers owed by 1 and brings the next grant; an expiry raises it by 1, restarts the timer at
the mode's interval and brings a grant on a free port, or at +8 is late, which is flagged and counted. The ring, the staged
and stored blocks and everything outside the controller's part stay (R27, R29, R30). A timer that is stopped does not
expire: the command has no effect there (log 1, the model's choice). -/
def Obligations.RefreshMovesOwed : Prop :=
  ∀ s : State, s.resetHeld = false → s.flagsFollow →
    (∀ form, s.memory.op = some { op := .refresh form, stale := false } →
      ∃ t, exec .refreshComplete s = .next t ∧
        (s.station.config = none →
          t.memory = { s.memory with owed := s.memory.owed - 1, op := none, selfRefresh := true }) ∧
        (s.station.config.isSome = true → s.memory.selfRefresh = false →
          t.memory =
            { s.memory with
              owed := s.memory.owed - 1
              op :=
                granted
                  (firstClaim (s.memory.owed - 1) (!s.memory.staging.isEmpty) s.memory.readRequest.isSome) }) ∧
        t.memory = { s.memory with owed := s.memory.owed - 1, op := t.memory.op, selfRefresh := t.memory.selfRefresh } ∧
        sameBut [.memory, .counters, .faults] s t) ∧
    (∀ interval, s.memory.refreshTimer = some interval → s.memory.owed ≠ 8 →
      ∃ t, exec .refreshExpiry s = .next t ∧
        t.memory =
          { s.memory with
            owed := s.memory.owed + 1
            refreshTimer := some (if s.memory.thermal = .normal then 3900 else 1950)
            op :=
              if s.memory.selfRefresh = false ∧ s.memory.op = none then
                granted (firstClaim (s.memory.owed + 1) (!s.memory.staging.isEmpty) s.memory.readRequest.isSome)
              else s.memory.op } ∧
        t.counters.lateRefresh = s.counters.lateRefresh ∧ sameBut [.memory, .counters, .faults] s t) ∧
    (∀ interval, s.memory.refreshTimer = some interval → s.memory.owed = 8 →
      exec .refreshExpiry s = .next
        { s with
          memory :=
            { s.memory with refreshTimer := some (if s.memory.thermal = .normal then 3900 else 1950) }
          counters := { s.counters with lateRefresh := min Config.counter32 (s.counters.lateRefresh + 1) }
          faults := s.faults.raise (Flag.mask .refreshLate true) }) ∧
    (s.memory.refreshTimer = none → exec .refreshExpiry s = .next s)

/-- Tier 2. On a free port out of self-refresh the first waiting operation of R27's order is granted, and only the grant of
a forced refresh is flagged and counted (R27, R30). A port that is not free grants nothing. The commands that bring a grant
are tied to it in their own statements: a completion (BlockWriteStores, BlockReadGathers, RefreshMovesOwed,
LeftOverOperationsHaveNoEffect), a staging (BlockDecided), an expiry (RefreshMovesOwed), a read request (DataFrameStarts)
and the leaving of self-refresh (ConfigurationAccepted). -/
def Obligations.PortGrantOrder : Prop :=
  (∀ s : State, (s.memory.selfRefresh = true ∨ s.memory.op.isSome = true) → grantPort s = s) ∧
  ∀ s : State, s.memory.selfRefresh = false → s.memory.op = none →
    (grantPort s).memory =
      { s.memory with
        op := granted (firstClaim s.memory.owed (!s.memory.staging.isEmpty) s.memory.readRequest.isSome) } ∧
    sameBut [.memory, .counters, .faults] s (grantPort s) ∧
    (s.memory.owed = 8 →
      (grantPort s).memory.op = some { op := .refresh .forced } ∧
      (grantPort s).counters.forcedRefresh = min Config.counter32 (s.counters.forcedRefresh + 1) ∧
      (grantPort s).faults = s.faults.raise (Flag.mask .refreshForced true)) ∧
    (s.memory.owed ≠ 8 → (grantPort s).counters = s.counters ∧ (grantPort s).faults = s.faults) ∧
    (s.memory.owed < 8 → s.memory.staging ≠ [] → (grantPort s).memory.op = some { op := .write }) ∧
    (s.memory.owed < 8 → s.memory.staging = [] → s.memory.readRequest.isSome = true →
      (grantPort s).memory.op = some { op := .read }) ∧
    (0 < s.memory.owed → s.memory.owed < 8 → s.memory.staging = [] → s.memory.readRequest = none →
      (grantPort s).memory.op = some { op := .refresh .postponed }) ∧
    (-8 < s.memory.owed → s.memory.owed ≤ 0 → s.memory.staging = [] → s.memory.readRequest = none →
      (grantPort s).memory.op = some { op := .refresh .pullIn }) ∧
    (s.memory.owed = -8 → s.memory.staging = [] → s.memory.readRequest = none → grantPort s = s)

/-- Tier 2. An operation left over from a SOFT RESET completes without effect: nothing is stored, handed over or counted,
owed stays, and an unconfigured station's DRAM enters self-refresh. Where a LOAD CONFIG was accepted meanwhile, the first
grant follows the completion (R27, R31, R36). -/
def Obligations.LeftOverOperationsHaveNoEffect : Prop :=
  ∀ (c : Instr) (op : PortOp) (s : State), s.resetHeld = false → s.flagsFollow →
    s.memory.op = some { op := op, stale := true } →
    (c = .blockWriteComplete ∧ op = .write ∨
      (∃ corrected uncorrectable, c = .blockReadComplete corrected uncorrectable) ∧ op = .read ∨
      c = .refreshComplete ∧ ∃ form, op = .refresh form) →
    (s.station.config = none →
      exec c s = .next { s with memory := { s.memory with op := none, selfRefresh := true } }) ∧
    (s.station.config.isSome = true → s.memory.selfRefresh = false → ∀ claim,
      claim = firstClaim s.memory.owed (!s.memory.staging.isEmpty) s.memory.readRequest.isSome →
      (claim ≠ some (.refresh .forced) →
        exec c s = .next { s with memory := { s.memory with op := granted claim } }) ∧
      (claim = some (.refresh .forced) →
        exec c s = .next
          { s with
            memory := { s.memory with op := some { op := .refresh .forced } }
            counters := { s.counters with forcedRefresh := min Config.counter32 (s.counters.forcedRefresh + 1) }
            faults := s.faults.raise (Flag.mask .refreshForced true) }))

/-- Tier 2. A reading moves the thermal mode by the table of R32, and the HOT and OVERTEMP flags follow. -/
def Obligations.ThermalReadingMovesMode : Prop :=
  ∀ (celsius : Int) (s : State), s.resetHeld = false → s.flagsFollow →
    ∃ t mode, exec (.thermalReading celsius) s = .next t ∧ t.memory = { s.memory with thermal := mode } ∧
      (95 ≤ celsius → mode = .overtemp) ∧
      (90 ≤ celsius → celsius < 95 → mode = if s.memory.thermal = .overtemp then .overtemp else .hot) ∧
      (85 ≤ celsius → celsius < 90 → mode = .hot) ∧
      (80 ≤ celsius → celsius < 85 → mode = if s.memory.thermal = .normal then .normal else .hot) ∧
      (celsius < 80 → mode = .normal) ∧
      (mode ≠ .normal → t.faults.flags.getLsbD 9 = true) ∧ (mode = .overtemp → t.faults.flags.getLsbD 10 = true) ∧
      (s.faults.mode = .live → mode = .normal → t.faults.flags.getLsbD 9 = false) ∧
      sameBut [.memory, .faults] s t

/-! ### Frame assembly -/

/-- Tier 2. A TRAILER is placed for a CLOSED head segment whose end the drain point has passed, with the segment's fields
as they stand; with the frame part then full the next segment is the head and the drain stops there
(R84, R91, R92, R94, R95). -/
def Obligations.TrailerPlaced : Prop :=
  ∀ (g : Segment) (rest : List Segment) (last : Nat) (s : State), s.resetHeld = false → s.assembler.phase = .idle →
    s.spine.frames.length < 4 → s.table.live = g :: rest → g.ending = some last → last < s.assembler.drain →
    ∃ t f, exec .trailerPlace s = .next t ∧ (s.spine.frames ++ [f]) <+: t.spine.frames ∧
      f = { origin := s.unitOrigin, seq := s.assembler.frameSeq, segOrigin := g.origin, segSeq := g.seq,
            body :=
              .trailer g.start last g.requested g.dataFrames g.gapFrames g.gapSamples g.levels g.absorbed } ∧
      (s.spine.frames.length = 3 →
        t.spine.frames = s.spine.frames ++ [f] ∧ t.table.live = rest ∧ t.table.queue = s.table.queue ∧
        (1 ≤ s.table.head → s.table.head ≤ 63 →
          t.table.head = if s.table.head = 63 then 1 else s.table.head + 1) ∧
        t.assembler =
          { s.assembler with frameSeq := s.assembler.frameSeq + 1, flushTimer := .running } ∧
        t.gaps = s.gaps ∧ t.memory = s.memory) ∧
      sameBut drainParts s t

/-- Tier 2. A GAP frame is placed when the head entry's front range starts at the drain point and is settled, reaches the
segment's end, or the flush-age timer has expired; it covers the range up to the segment's end, the list gives it up (as
GapListLosesNoIndex spells it) and the drain point passes it (R47, R83, R94, R96, R97; a drop that merged at the same event
is in the range, log 32, the model's choice). -/
def Obligations.GapFramePlaced : Prop :=
  ∀ (g : Segment) (more : List Segment) (e : GapEntry) (rest : List GapEntry) (k : Nat) (s : State),
    s.resetHeld = false → s.assembler.phase = .idle → s.spine.frames.length < 4 → s.table.live = g :: more →
    s.gaps.entries = e :: rest → e.first = s.assembler.drain → 1 ≤ e.count →
    (∀ last, g.ending = some last → s.assembler.drain ≤ last) →
    (e.isOpen = false ∨ e.heldPart.isSome = true ∨
      (∃ last, g.ending = some last ∧ last ≤ e.first + e.count - 1) ∨ s.assembler.flushTimer = .expired) →
    k = (match g.ending with
          | some last => min e.count (last + 1 - e.first)
          | none => e.count) →
    ∃ t f, exec .gapFramePlace s = .next t ∧ (s.spine.frames ++ [f]) <+: t.spine.frames ∧
      f = { origin := s.unitOrigin, seq := s.assembler.frameSeq, segOrigin := g.origin, segSeq := g.seq,
            body := .gap e.first k (.drop e.cause) e.heldFlag } ∧
      (s.spine.frames.length = 3 → s.table.queue = [] →
        t.spine.frames = s.spine.frames ++ [f] ∧ t.gaps = s.gaps.consume k ∧
        t.assembler =
          { s.assembler with
            drain := s.assembler.drain + k
            frameSeq := s.assembler.frameSeq + 1
            flushTimer := .running } ∧
        t.table.live = Segment.countGap k g :: more ∧ t.memory = s.memory) ∧
      sameBut drainParts s t

/-- Tier 2. Which span is eligible: with the drain point a inside the block at the drain slot, the data limit is the
earliest of the newest stored block's last sample, the CLOSED head segment's end and the sample before a Gap List head
entry above a; the span is the one SpanFitsThePayload chooses below it, and it is eligible if it cannot be extended by a
block, the head segment is CLOSED, it ends right before the head entry, or the flush-age timer has expired; otherwise none
is. A DATA frame starts when nothing of higher order is due and a span is eligible: the working copy is fixed at the
effective level, the drain point passes the span and its first block is requested, at once on a free port
(R26, R27, R94, R98, R99, R101, R103, R107). -/
def Obligations.DataFrameStarts : Prop :=
  (∀ (g : Segment) (x y : Slot) (a stored bound limit last : Nat) (s : State), a = s.assembler.drain →
    0 < s.memory.storedCount → dramRead s.memory.drainSlot s.memory.dram = some x →
    dramRead (if s.memory.writeSlot = 0 then s.capacity - 1 else s.memory.writeSlot - 1) s.memory.dram = some y →
    stored = 512 * y.block.number + y.block.fill - 1 →
    (∀ e, s.gaps.entries.head? = some e → a < e.first → bound = min stored (e.first - 1)) →
    ((∀ e, s.gaps.entries.head? = some e → e.first ≤ a) → bound = stored) →
    (∀ ending, g.ending = some ending → limit = min bound ending) → (g.ending = none → limit = bound) →
    last = spanEnd s.channels s.payloadSize s.presence.effective a limit →
    ∀ eligible : Prop,
      (eligible ↔
        (512 * x.block.number ≤ a ∧ a ≤ 512 * x.block.number + x.block.fill - 1) ∧
        (∀ ending, g.ending = some ending → a ≤ ending) ∧
        (s.payloadSize < payloadBytes s.channels s.presence.effective a (last + 512) ∨ g.ending.isSome = true ∨
          (∃ e, s.gaps.entries.head? = some e ∧ a < e.first ∧ e.first = last + 1) ∨
          s.assembler.flushTimer = .expired)) →
      (eligible → dataSpan s g = some last) ∧ (¬eligible → dataSpan s g = none)) ∧
  (∀ (g : Segment) (s : State), s.memory.storedCount = 0 → dataSpan s g = none) ∧
  ∀ (g : Segment) (more : List Segment) (last : Nat) (s : State), s.resetHeld = false → s.flagsFollow →
    s.assembler.phase = .idle → s.spine.frames.length < 4 → s.table.live = g :: more →
    (∀ ending, g.ending = some ending → s.assembler.drain ≤ ending) →
    (∀ e rest, s.gaps.entries = e :: rest → e.first ≠ s.assembler.drain) → dataSpan s g = some last →
    s.table.queue = [] →
    ∃ t, exec .dataFrameStart s = .next t ∧
      t.assembler =
        { s.assembler with
          drain := last + 1
          phase :=
            .assembling
              { first := s.assembler.drain, last := last, level := s.presence.effective, origin := g.origin,
                seq := g.seq, position := s.table.head, next := s.assembler.drain / 512,
                gathered := List.replicate s.channels [] } } ∧
      t.memory.readRequest = some (s.assembler.drain / 512) ∧ t.memory.dram = s.memory.dram ∧
      t.memory.staging = s.memory.staging ∧ t.memory.storedCount = s.memory.storedCount ∧
      t.memory.drainSlot = s.memory.drainSlot ∧ t.memory.owed = s.memory.owed ∧
      (s.memory.op.isSome = true → t.memory.op = s.memory.op) ∧
      (s.memory.op = none → s.memory.selfRefresh = false →
        t.memory.op = granted (firstClaim s.memory.owed (!s.memory.staging.isEmpty) true)) ∧
      sameBut [.memory, .assembler, .counters, .faults] s t

/-- Tier 2. The pending MEMORY gap is placed when a frame slot is free, and waits otherwise (R90, R112; the row of its own
re-judges, log 3). The flush-age timer expires while it runs, and with the frame part full nothing starts at the expiry
(R91). FLUSH_AGE_EXPIRY on a timer that is stopped or expired already has no effect: the model's choice (log 1). -/
def Obligations.MemoryGapAndFlushAge : Prop :=
  (∀ (m : MemoryGap) (s : State), s.resetHeld = false → s.flagsFollow → s.assembler.phase = .pending m →
    (s.spine.frames.length < 4 →
      ∃ t f, exec .memoryGapPlace s = .next t ∧ (s.spine.frames ++ [f]) <+: t.spine.frames ∧
        f = { origin := s.unitOrigin, seq := s.assembler.frameSeq, segOrigin := m.origin, segSeq := m.seq,
              body := .gap m.first m.count .memory false } ∧
        (s.spine.frames.length = 3 →
          t.spine.frames = s.spine.frames ++ [f] ∧ t.assembler.phase = .idle ∧
          t.assembler.drain = s.assembler.drain ∧ t.assembler.frameSeq = s.assembler.frameSeq + 1 ∧
          t.table.live = mapHead (Segment.countGap m.count) s.table.live ∧ t.gaps = s.gaps ∧
          t.memory = s.memory) ∧
        sameBut drainParts s t) ∧
    (s.spine.frames.length = 4 → exec .memoryGapPlace s = .next s)) ∧
  ∀ s : State, s.resetHeld = false → s.flagsFollow →
    (s.assembler.flushTimer = .running → s.spine.frames.length = 4 →
      exec .flushAgeExpiry s = .next { s with assembler := { s.assembler with flushTimer := .expired } }) ∧
    (s.assembler.flushTimer = .running →
      ∃ t, exec .flushAgeExpiry s = .next t ∧ sameBut drainParts s t ∧ DrainKeeps s t) ∧
    (s.assembler.flushTimer ≠ .running → exec .flushAgeExpiry s = .next s)

/-- Tier 2. The payload bytes of a span are R102's. The span chosen for a DATA frame begins at the drain point, ends at an
end candidate (a block's end, or the data limit itself), and its payload fits the payload size at every level, wherever the
payload size holds one block; no end candidate above it fits (R101, R102, R159 test 5). -/
def Obligations.SpanFitsThePayload : Prop :=
  (∀ (channels a last size : Nat) (level : Level), size = 2 ^ (level.val + 1) →
    payloadBytes channels level a last =
      if level.val = 0 then (2 * channels * (last + 1 - a) + 3) / 4 * 4
      else 4 * channels * (last / size - a / size + 1)) ∧
  ∀ (channels payload a limit : Nat) (level : Level), 1 ≤ channels → 1024 * channels ≤ payload → a ≤ limit →
    a ≤ spanEnd channels payload level a limit ∧ spanEnd channels payload level a limit ≤ limit ∧
    payloadBytes channels level a (spanEnd channels payload level a limit) ≤ payload ∧
    payloadBytes channels level a (spanEnd channels payload level a limit) % 4 = 0 ∧
    (spanEnd channels payload level a limit = limit ∨ spanEnd channels payload level a limit % 512 = 511) ∧
    (payload ≤ 16384 → ∀ last, a ≤ last → last ≤ limit → (last = limit ∨ last % 512 = 511) →
      payloadBytes channels level a last ≤ payload → last ≤ spanEnd channels payload level a limit)

/-- Tier 2. Each group of samples is reduced to its least and greatest sample as signed numbers, group after group: the
first group holds the `left` samples to its end, which are fewer than a whole group where the span begins inside it, each
later one a whole group, and the last what is left (R104, R105). -/
def Obligations.ReductionIsMinMax : Prop :=
  (∀ size left : Nat, reduceSamples size left none [] = []) ∧
  ∀ (size left : Nat) (group rest : List Sample), 1 ≤ left → group ≠ [] →
    (group.length = left ∨ (group.length < left ∧ rest = [])) →
    ∃ lo ∈ group, ∃ hi ∈ group, (∀ x ∈ group, lo.toInt ≤ x.toInt ∧ x.toInt ≤ hi.toInt) ∧
      reduceSamples size left none (group ++ rest) = lo :: hi :: reduceSamples size size none rest

/-! ### The spine -/

/-- Tier 2. At a unit's header arrival the first test of R130 that holds decides it: bad length, own source, hop count 15
or more, overflow, else accepted; a discarded unit is flagged and counted, and an accepted one enters the transit buffer
(R119, R130, R131, R135 to R137). The bytes sent by then are an operand (log 7), and a header may also arrive after a
discarded unit whose end was no command (log 20): the model's choices. -/
def Obligations.HeaderArrivalJudged : Prop :=
  ∀ (header : Vector Byte 60) (sent : Nat) (s s₁ : State), s.resetHeld = false → s.flagsFollow →
    (s.spine.input = none ∨ ∃ h, s.spine.input = some { header := h, fate := .discarded }) →
    s₁ = noteSent sent s →
    ((16384 < payloadLengthOf header.toList ∨ payloadLengthOf header.toList % 4 ≠ 0) →
      exec (.unitHeaderArrival header sent) s = .next
        { s₁ with
          spine := { s₁.spine with input := some { header := header.toList, fate := .discarded } }
          counters := { s.counters with checkError := min Config.counter32 (s.counters.checkError + 1) }
          faults := s.faults.raise (Flag.mask .checkError true) }) ∧
    (payloadLengthOf header.toList ≤ 16384 → payloadLengthOf header.toList % 4 = 0 →
      (s.spine.ownAddress = some (sourceOf header.toList) →
        exec (.unitHeaderArrival header sent) s = .next
          { s₁ with
            spine := { s₁.spine with input := some { header := header.toList, fate := .strippedOwn } } }) ∧
      (s.spine.ownAddress ≠ some (sourceOf header.toList) → 15 ≤ hopOf header.toList →
        exec (.unitHeaderArrival header sent) s = .next
          { s₁ with
            spine := { s₁.spine with input := some { header := header.toList, fate := .strippedOrphan } } }) ∧
      (s.spine.ownAddress ≠ some (sourceOf header.toList) → hopOf header.toList < 15 →
        49152 < occupancy s₁.spine.transit + (64 + payloadLengthOf header.toList) →
        exec (.unitHeaderArrival header sent) s = .next
          { s₁ with
            spine := { s₁.spine with input := some { header := header.toList, fate := .discarded } }
            counters := { s.counters with overflow := min Config.counter32 (s.counters.overflow + 1) }
            faults := s.faults.raise (Flag.mask .transitOverflow true) }) ∧
      (s.spine.ownAddress ≠ some (sourceOf header.toList) → hopOf header.toList < 15 →
        occupancy s₁.spine.transit + (64 + payloadLengthOf header.toList) ≤ 49152 →
        ∃ t, exec (.unitHeaderArrival header sent) s = .next t ∧
          t.spine.transit =
            s₁.spine.transit ++
              [{ header := header.toList, length := 64 + payloadLengthOf header.toList, received := 60 }] ∧
          t.spine.input = some { header := header.toList, fate := .accepted } ∧
          (s.spine.port ≠ .free → t.spine.port = s.spine.port ∧ t.spine.notes = s.spine.notes) ∧
          (s.spine.port = .free → s.notesEligible = false ∨ s.spine.notes = [] →
            s.spine.hold.isEmpty = false ∨ s.spine.frames = [] → t.spine.port = .forwarding) ∧
          t.spine.frames = s.spine.frames ∧ t.spine.hold = s.spine.hold ∧ sameBut [.spine] s t))

/-- Tier 2. A unit that ends before its header arrived is a runt, and an accepted or own unit that is not good is a check
error: both are flagged and counted, and nothing is handed on. An orphan is flagged and counted at its end, good or not;
a discarded unit's end changes nothing more (R119, R133, R136, R137). Good asks for exactly the declared length, so that a
unit longer than declared is counted too (log 8). -/
def Obligations.BadUnitsAreCounted : Prop :=
  ∀ (rest : List Byte) (s : State), s.resetHeld = false → s.flagsFollow →
    (s.spine.input = none →
      exec (.unitEnd rest) s = .next
        { s with
          counters := { s.counters with checkError := min Config.counter32 (s.counters.checkError + 1) }
          faults := s.faults.raise (Flag.mask .checkError true) }) ∧
    ∀ header,
      (s.spine.input = some { header := header, fate := .discarded } →
        exec (.unitEnd rest) s = .next { s with spine := { s.spine with input := none } }) ∧
      (s.spine.input = some { header := header, fate := .strippedOwn } → isGood header rest = false →
        exec (.unitEnd rest) s = .next
          { s with
            spine := { s.spine with input := none }
            counters := { s.counters with checkError := min Config.counter32 (s.counters.checkError + 1) }
            faults := s.faults.raise (Flag.mask .checkError true) }) ∧
      (s.spine.input = some { header := header, fate := .accepted } → isGood header rest = false →
        exec (.unitEnd rest) s = .next
          { s with
            spine :=
              { s.spine with
                input := none
                transit := mapLast (TransitUnit.endedWith (keptBytes header rest)) s.spine.transit }
            counters := { s.counters with checkError := min Config.counter32 (s.counters.checkError + 1) }
            faults := s.faults.raise (Flag.mask .checkError true) }) ∧
      (s.spine.input = some { header := header, fate := .strippedOrphan } →
        ∃ t, exec (.unitEnd rest) s = .next t ∧ t.spine = { s.spine with input := none } ∧
          t.counters.orphan = min Config.counter32 (s.counters.orphan + 1) ∧ t.faults.flags.getLsbD 15 = true ∧
          (isGood header rest = true → t.counters.checkError = s.counters.checkError) ∧
          (isGood header rest = false →
            t.counters.checkError = min Config.counter32 (s.counters.checkError + 1)) ∧
          sameBut [.spine, .counters, .faults] s t)

/-- Tier 2. An own unit comes back good. A note of another device number is an address clash. A note of the own device
number and the current incarnation is a return: the counter goes to 0, RING_OPEN is cleared, and the first one clears
NOT_JOINED and moves JOINING to READY, also while ADDRESS_CLASH is present (log 33, the model's choice); one of
another incarnation, or in UNCONFIGURED, has no effect. A frame of the own device number is unclaimed and sets
ARCHIVE_ABSENT (R124, R135, R142 to R145; good asks for exactly the declared length, log 8). -/
def Obligations.OwnUnitsComeBack : Prop :=
  ∀ (header rest : List Byte) (s : State), s.resetHeld = false → s.flagsFollow →
    s.spine.input = some { header := header, fate := .strippedOwn } → isGood header rest = true →
    ((kindOf header = 0x10 ∨ kindOf header = 0x11) → payloadLengthOf header = 0 →
      (deviceOf header ≠ s.station.deviceNumber →
        ∃ t, exec (.unitEnd rest) s = .next t ∧ t.spine.hold = { s.spine.hold with addressClash := true } ∧
          t.faults.flags.getLsbD 17 = true ∧ t.spine.input = none ∧ t.spine.transit = s.spine.transit ∧
          t.spine.frames = s.spine.frames ∧ sameBut [.spine, .faults] s t) ∧
      (deviceOf header = s.station.deviceNumber → incarnationOf header = s.station.incarnation →
        s.station.phase ≠ .unconfigured →
        ∃ t, exec (.unitEnd rest) s = .next t ∧
          t.presence = { s.presence with returnCounter := 0, joined := true } ∧
          t.spine.hold =
            { s.spine.hold with ringOpen := false, notJoined := s.spine.hold.notJoined && s.presence.joined } ∧
          t.spine.input = none ∧ t.spine.transit = s.spine.transit ∧ t.station.config = s.station.config ∧
          (s.station.phase = .joining → s.presence.joined = false → t.station.phase = .ready) ∧
          (s.station.phase = .run → t.station.phase = .run) ∧ sameBut (.presence :: drainParts) s t) ∧
      (deviceOf header = s.station.deviceNumber →
        (incarnationOf header ≠ s.station.incarnation ∨ s.station.phase = .unconfigured) →
        ∃ t, exec (.unitEnd rest) s = .next t ∧ t.spine.hold = s.spine.hold ∧ t.spine.input = none ∧
          t.spine.transit = s.spine.transit ∧ t.spine.frames = s.spine.frames ∧ sameBut [.spine] s t)) ∧
    ((kindOf header = 1 ∨ kindOf header = 2 ∨ kindOf header = 3) → deviceOf header = s.station.deviceNumber →
      ∃ t, exec (.unitEnd rest) s = .next t ∧ t.spine.hold = { s.spine.hold with archiveAbsent := true } ∧
        t.counters = { s.counters with unclaimed := min Config.counter32 (s.counters.unclaimed + 1) } ∧
        t.faults.flags.getLsbD 16 = true ∧ t.spine.input = none ∧ t.spine.transit = s.spine.transit ∧
        t.spine.frames = s.spine.frames ∧ sameBut [.spine, .counters, .faults] s t)

/-- Tier 2. A peer's good presence note makes its entry LIVE, when its run tag and rate class are the station's, and
else MISMATCHED, with the note's fields and age 0; in UNCONFIGURED it has no effect on the table, and no other entry
changes. A peer's good MARKER note is taken as a boundary request when all the tests of R65 hold, and refused without
effect when one fails; the order of the request, the output's choice and what follows is log 4's (R65, R134, R147;
good asks for exactly the declared length, log 8). -/
def Obligations.PeerNotesTaken : Prop :=
  (∀ (header rest : List Byte) (s : State), s.resetHeld = false → s.flagsFollow →
    s.spine.input = some { header := header, fate := .accepted } → isGood header rest = true →
    kindOf header = 0x10 → payloadLengthOf header = 0 → 1 ≤ (sourceOf header).toNat → (sourceOf header).toNat ≤ 14 →
    s.spine.ownAddress ≠ some (sourceOf header) → s.presence.peers.length = 14 →
    ∃ t, exec (.unitEnd rest) s = .next t ∧
      (s.station.phase = .unconfigured → t.presence = s.presence) ∧
      (s.station.phase ≠ .unconfigured →
        t.presence = { s.presence with peers := t.presence.peers } ∧
        t.presence.peers[(sourceOf header).toNat - 1]? =
          some
            { phase := if runTagOf header = s.runTag ∧ rateClassOf header = s.rateClass then .live else .mismatched
              lastSeq := BitVec.ofNat 16 (fieldAt header 16 2)
              demand := levelOf (byteAt header 19)
              fill := BitVec.ofNat 16 (fieldAt header 22 2)
              runTag := runTagOf header
              rateClass := rateClassOf header
              age := 0 } ∧
        ∀ k, k ≠ (sourceOf header).toNat - 1 → t.presence.peers[k]? = s.presence.peers[k]?) ∧
      t.spine.hold = s.spine.hold ∧ t.spine.frames = s.spine.frames ∧
      t.spine.transit = mapLast (TransitUnit.endedWith (keptBytes header rest)) s.spine.transit ∧
      sameBut [.spine, .presence, .faults] s t) ∧
  ∀ (header rest : List Byte) (s s₁ : State), s.resetHeld = false → s.flagsFollow →
    s.spine.input = some { header := header, fate := .accepted } → isGood header rest = true →
    kindOf header = 0x11 → payloadLengthOf header = 0 → s.spine.ownAddress ≠ some (sourceOf header) →
    s₁ =
      { s with
        spine :=
          { s.spine with
            input := none
            transit := mapLast (TransitUnit.endedWith (keptBytes header rest)) s.spine.transit } } →
    ((sourceOf header = 0 ∨ sourceOf header = 15 ∨ (s.station.phase ≠ .run ∧ s.station.phase ≠ .flush) ∨
        runTagOf header ≠ s.runTag ∨ rateClassOf header ≠ s.rateClass ∨ 3 < (byteAt header 18).toNat ∨
        BitVec.ofNat 16 (fieldAt header 16 2) = 0) →
      exec (.unitEnd rest) s = .next (arbitrate s₁)) ∧
    (1 ≤ (sourceOf header).toNat → (sourceOf header).toNat ≤ 14 →
      (s.station.phase = .run ∨ s.station.phase = .flush) → runTagOf header = s.runTag →
      rateClassOf header = s.rateClass → ∀ line : Fin 4, (byteAt header 18).toNat = line.val →
      BitVec.ofNat 16 (fieldAt header 16 2) ≠ 0 →
      exec (.unitEnd rest) s = .next
        (report s (settleFrom s (arbitrate
          (arriveRequest
            { origin := sourceOf header, seq := BitVec.ofNat 16 (fieldAt header 16 2), index := fieldAt header 20 6,
              cause := .peerLine line } s₁)))))

/-- Tier 2. A good INGEST note from address 0 clears ARCHIVE_ABSENT in every state; outside UNCONFIGURED the record takes
the note's fields at age 0, ARCHIVE_HOLD follows its HOLD and E rises to its level (R124, R149; good asks for exactly the
declared length, log 8). -/
def Obligations.IngestNoteTaken : Prop :=
  ∀ (header rest : List Byte) (s : State), s.resetHeld = false → s.flagsFollow →
    s.spine.input = some { header := header, fate := .accepted } → isGood header rest = true →
    kindOf header = 0x12 → payloadLengthOf header = 0 → sourceOf header = 0 → s.spine.ownAddress ≠ some 0 →
    ∃ t, exec (.unitEnd rest) s = .next t ∧ t.spine.hold.archiveAbsent = false ∧
      (s.station.phase = .unconfigured →
        t.presence = s.presence ∧ t.spine.hold = { s.spine.hold with archiveAbsent := false }) ∧
      (s.station.phase ≠ .unconfigured →
        t.presence =
          { s.presence with
            ingest :=
              some
                { seq := BitVec.ofNat 16 (fieldAt header 16 2), level := levelOf (byteAt header 18),
                  hold := (byteAt header 19).getLsbD 0, age := 0 }
            effective := max s.presence.effective (levelOf (byteAt header 18)) } ∧
        t.spine.hold =
          { s.spine.hold with archiveAbsent := false, archiveHold := (byteAt header 19).getLsbD 0 } ∧
        ((byteAt header 19).getLsbD 0 = true → t.faults.flags.getLsbD 20 = true)) ∧
      sameBut (.presence :: drainParts) s t

/-- Tier 2. When the port becomes FREE the arbiter sends the first of: waiting transit above 32,704 bytes, the head note if
eligible, the head frame if the hold set is empty, waiting transit; else the port stays FREE. A note's end and a
forwarding's end are such events; the forwarded unit leaves the buffer. A frame's insertion completes: the head frame
leaves the frame part, those behind it keep their order, and frames that start at the freed slot join behind them. What
was sent stands whole in the state: a note or a frame sealed with its check word, a forwarded unit with its hop count
raised and its other bytes as received, also where it has not ended at the input yet
(R93, R122, R125 to R127, R129, R132; the bytes received by then are an operand, log 7; the last unit sent is a field of
the model's own, log 21). -/
def Obligations.OutputEndsBringAChoice : Prop :=
  (∀ (arrived : List Byte) (s x : State) (sent : List Byte) (c : Instr), s.resetHeld = false → s.flagsFollow →
    ((∃ n, s.spine.port = .insertingNote n ∧ sent = sealUnit (noteHeader n) []) ∧ c = .noteInsertionEnd arrived ∧
        x = noteReceived arrived s ∨
      (∃ u rest, s.spine.port = .forwarding ∧ c = .forwardingEnd arrived ∧
        (noteReceived arrived s).spine.transit = u :: rest ∧ u.length ≤ u.received ∧
        sent = mapNth (· + 1) 1 u.header ++ u.body ∧
        x = { noteReceived arrived s with
              spine := { (noteReceived arrived s).spine with transit := rest } })) →
    ∃ t, exec c s = .next t ∧ t.spine.lastSent = some sent ∧ t.spine.transit = x.spine.transit ∧ t.spine.frames = s.spine.frames ∧
      t.spine.hold = s.spine.hold ∧ sameBut [.spine] s t ∧
      (x.spine.transit ≠ [] → 32704 < occupancy x.spine.transit →
        t.spine.port = .forwarding ∧ t.spine.notes = s.spine.notes) ∧
      (occupancy x.spine.transit ≤ 32704 →
        (∀ n notes, s.spine.notes = n :: notes → s.station.phase ≠ .unconfigured →
          s.spine.hold.addressClash = false → t.spine.port = .insertingNote n ∧ t.spine.notes = notes) ∧
        (s.spine.notes = [] ∨ s.station.phase = .unconfigured ∨ s.spine.hold.addressClash = true →
          t.spine.notes = s.spine.notes ∧
          (s.spine.frames ≠ [] →
            s.spine.hold = ⟨false, false, false, false, false⟩ → t.spine.port = .insertingFrame) ∧
          (s.spine.frames = [] ∨ s.spine.hold ≠ ⟨false, false, false, false, false⟩ →
            t.spine.port = if x.spine.transit = [] then .free else .forwarding)))) ∧
  (∀ (arrived : List Byte) (before : List TransitUnit) (u : TransitUnit) (s : State),
    s.spine.transit = before ++ [u] →
    (u.ended = true → (noteReceived arrived s).spine.transit = s.spine.transit) ∧
    (u.ended = false → u.body.length < arrived.length → u.received ≤ u.length →
      u.received ≤ 60 + arrived.length →
      (noteReceived arrived s).spine.transit =
        before ++ [{ u with body := arrived.take (u.length - 60), received := min (60 + arrived.length) u.length }])) ∧
  ∀ (arrived : List Byte) (f : Frame) (frames : List Frame) (s : State), s.resetHeld = false →
    s.spine.port = .insertingFrame → s.spine.frames = f :: frames →
    ∃ t, exec (.frameInsertionComplete arrived) s = .next t ∧ frames <+: t.spine.frames ∧
      t.spine.lastSent = some (sealUnit (frameHeader f) (framePayload f.body)) ∧
      t.spine.transit = (noteReceived arrived s).spine.transit ∧ t.spine.hold = s.spine.hold ∧
      t.memory.dram = s.memory.dram ∧ t.memory.storedCount = s.memory.storedCount ∧ sameBut drainParts s t

/-- Tier 2. Raising the hop count leaves the check word as it was, so that a forwarded unit stays good; the check word has the
value R185 works out. What the station inserts, a station reads: every note and every frame whose payload is no longer
than 16,384 bytes in a multiple of 4 is sealed into a unit of its declared length that is good at its end, with hop count
0 and its source, device number, incarnation, rate class and run tag in their places; a MARKER note gives a peer exactly
the request it announces, and a PRESENCE note exactly the fields a peer keeps. A frame's sequence, segment identity and
payload stand in their places, and with numbers that fit their fields so does every field of its kind (R65, R117, R129,
R132, R133, R147, R182, R183, R185). -/
def Obligations.UnitsReadBack : Prop :=
  ((∀ (header payload : List Byte), checkWord (mapNth (· + 1) 1 header) payload = checkWord header payload) ∧
  (∀ (header rest : List Byte), 2 ≤ header.length →
    isGood (mapNth (· + 1) 1 header) rest = isGood header rest) ∧
  crc32 [0x31, 0x32, 0x33, 0x34, 0x35, 0x36, 0x37, 0x38, 0x39] = 0xCBF43926) ∧
  (∀ n : Note,
    (noteHeader n).length = 60 ∧ isGood (noteHeader n) ((sealUnit (noteHeader n) []).drop 60) = true ∧
    unitLengthOf (noteHeader n) = 64 ∧ hopOf (noteHeader n) = 0 ∧ sourceOf (noteHeader n) = n.origin.source ∧
    deviceOf (noteHeader n) = n.origin.device ∧ incarnationOf (noteHeader n) = n.origin.incarnation ∧
    rateClassOf (noteHeader n) = n.origin.rateClass ∧ runTagOf (noteHeader n) = n.origin.runTag ∧
    (∀ seq line index, n.body = .marker seq line index → index < 2 ^ 48 →
      kindOf (noteHeader n) = 0x11 ∧
      peerRequestOf (noteHeader n) =
        { origin := n.origin.source, seq := seq, index := index, cause := .peerLine line }) ∧
    (∀ seq phase demand effective fill hold lastMarker,
      n.body = .presence seq phase demand effective fill hold lastMarker →
      kindOf (noteHeader n) = 0x10 ∧ presenceSeqOf (noteHeader n) = seq ∧ presenceDemandOf (noteHeader n) = demand ∧
      presenceFillOf (noteHeader n) = BitVec.ofNat 16 fill)) ∧
  ∀ f : Frame, (framePayload f.body).length ≤ 16384 → (framePayload f.body).length % 4 = 0 →
    (frameHeader f).length = 60 ∧
    isGood (frameHeader f) ((sealUnit (frameHeader f) (framePayload f.body)).drop 60) = true ∧
    badLength (frameHeader f) = false ∧
    unitLengthOf (frameHeader f) = (sealUnit (frameHeader f) (framePayload f.body)).length ∧
    hopOf (frameHeader f) = 0 ∧ sourceOf (frameHeader f) = f.origin.source ∧
    deviceOf (frameHeader f) = f.origin.device ∧ isFrameKind (kindOf (frameHeader f)) = true ∧
    incarnationOf (frameHeader f) = f.origin.incarnation ∧ rateClassOf (frameHeader f) = f.origin.rateClass ∧
    runTagOf (frameHeader f) = f.origin.runTag ∧ fieldAt (frameHeader f) 16 4 = f.seq.toNat ∧
    byteAt (frameHeader f) 20 = f.segOrigin ∧ fieldAt (frameHeader f) 22 2 = f.segSeq.toNat ∧
    ((sealUnit (frameHeader f) (framePayload f.body)).drop 60).take (framePayload f.body).length =
      framePayload f.body ∧
    (∀ first span level channels clip pairs payload, f.body = .data first span level channels clip pairs payload →
      first < 2 ^ 48 → span < 2 ^ 32 → channels < 256 → clip < 256 → pairs < 2 ^ 16 →
      kindOf (frameHeader f) = 0x01 ∧ fieldAt (frameHeader f) 24 6 = first ∧ fieldAt (frameHeader f) 32 4 = span ∧
      (byteAt (frameHeader f) 36).toNat = level.val ∧ (byteAt (frameHeader f) 37).toNat = channels ∧
      (byteAt (frameHeader f) 38).toNat = clip ∧ fieldAt (frameHeader f) 40 2 = pairs) ∧
    (∀ first count cause held, f.body = .gap first count cause held → first < 2 ^ 48 → count < 2 ^ 64 →
      kindOf (frameHeader f) = 0x02 ∧ fieldAt (frameHeader f) 24 6 = first ∧ fieldAt (frameHeader f) 32 8 = count ∧
      byteAt (frameHeader f) 40 =
        (match cause with
          | .drop .lane => 0x01
          | .drop .thermal => 0x02
          | .drop .ringFull => 0x03
          | .drop .portBusy => 0x04
          | .memory => 0x05) ∧
      byteAt (frameHeader f) 41 = if held then 0x01 else 0x00) ∧
    ∀ start ending requested dataFrames gapFrames gapSamples levels absorbed,
      f.body = .trailer start ending requested dataFrames gapFrames gapSamples levels absorbed →
      start < 2 ^ 48 → ending < 2 ^ 48 → requested.getD 0 < 2 ^ 48 → dataFrames < 2 ^ 32 → gapFrames < 2 ^ 32 →
      gapSamples < 2 ^ 56 → absorbed < 2 ^ 16 →
      kindOf (frameHeader f) = 0x03 ∧ fieldAt (frameHeader f) 24 6 = start ∧ fieldAt (frameHeader f) 30 6 = ending ∧
      (byteAt (frameHeader f) 21).getLsbD 0 = requested.isSome ∧
      (byteAt (frameHeader f) 21).getLsbD 1 = levels.isSome ∧
      fieldAt (frameHeader f) 36 6 = requested.getD 0 ∧ fieldAt (frameHeader f) 42 4 = dataFrames ∧
      fieldAt (frameHeader f) 46 4 = gapFrames ∧ fieldAt (frameHeader f) 50 7 = gapSamples ∧
      (∀ range, levels = some range →
        (byteAt (frameHeader f) 57).toNat % 16 = range.lowest.val ∧
        (byteAt (frameHeader f) 57).toNat / 16 = range.highest.val) ∧
      (levels = none → byteAt (frameHeader f) 57 = 0) ∧ fieldAt (frameHeader f) 58 2 = absorbed

/-! ### Presence and pace agreement -/

/-- Tier 2. At each tick in RUN or FLUSH, D and the hold counter follow f by the cases raise, lower and hold, with the
thresholds and the hold time of R152. -/
def Obligations.DemandFollowsFill : Prop :=
  ∀ (c : Configuration) (f hold k : Nat) (s : State), s.resetHeld = false → s.presence.ticking = true →
    (s.station.phase = .run ∨ s.station.phase = .flush) → s.station.config = some c →
    f = 1000 * (s.memory.staging.length + s.memory.storedCount) / (2 ^ 24 / 2 ^ c.channelCode.val) →
    hold = 4 * 4 ^ c.holdCode.val →
    k = (if 850 ≤ f then 4 else if 700 ≤ f then 3 else if 550 ≤ f then 2 else if 400 ≤ f then 1 else 0) →
    ∃ t, exec .paceTick s = .next t ∧ t.presence.fill = f ∧
      (s.presence.demand.val < k → t.presence.demand.val = k ∧ t.presence.holdCounter = 0) ∧
      (k ≤ s.presence.demand.val → 1 ≤ s.presence.demand.val → f < 100 + 150 * s.presence.demand.val →
        hold ≤ s.presence.holdCounter →
        t.presence.demand.val + 1 = s.presence.demand.val ∧ t.presence.holdCounter = 0) ∧
      (k ≤ s.presence.demand.val →
        (s.presence.demand.val = 0 ∨ 100 + 150 * s.presence.demand.val ≤ f ∨ s.presence.holdCounter < hold) →
        t.presence.demand = s.presence.demand ∧ t.presence.holdCounter = min 65535 (s.presence.holdCounter + 1))

/-- Tier 2. A tick: every peer entry and the ingest record age, the return counter advances to 8 at most and RING_OPEN is
set at 8, D is 0 outside RUN and FLUSH, E is the greatest of D, the D of every LIVE peer and I, and the presence sequence
advances (R140, R141, R143, R148, R150, R154, R155). A tick that is stopped does not fall: the command has no effect there
(log 1, the model's choice). -/
def Obligations.PaceTickInOrder : Prop :=
  ∀ s : State, s.resetHeld = false → s.flagsFollow →
    (s.presence.ticking = false → exec .paceTick s = .next s) ∧
    (s.presence.ticking = true →
      ∃ t, exec .paceTick s = .next t ∧ t.presence.peers = s.presence.peers.map PeerEntry.aged ∧
        t.presence.sequence = s.presence.sequence + 1 ∧
        t.presence.returnCounter = min 8 (s.presence.returnCounter + 1) ∧
        (7 ≤ s.presence.returnCounter → t.spine.hold.ringOpen = true ∧ t.faults.flags.getLsbD 12 = true) ∧
        (s.presence.returnCounter < 7 → t.spine.hold.ringOpen = s.spine.hold.ringOpen) ∧
        (s.presence.ingest = none →
          t.presence.ingest = none ∧ t.spine.hold.archiveHold = s.spine.hold.archiveHold) ∧
        (∀ r, s.presence.ingest = some r → r.age < 7 →
          t.presence.ingest = some { r with age := r.age + 1 } ∧
          t.spine.hold.archiveHold = s.spine.hold.archiveHold) ∧
        (∀ r, s.presence.ingest = some r → 7 ≤ r.age →
          t.presence.ingest = none ∧ t.spine.hold.archiveHold = false) ∧
        (s.station.phase ≠ .run → s.station.phase ≠ .flush →
          t.presence.demand = 0 ∧ t.presence.holdCounter = 0) ∧
        t.presence.demand ≤ t.presence.effective ∧
        (∀ e ∈ t.presence.peers, e.phase = .live → e.demand ≤ t.presence.effective) ∧
        (∀ r, t.presence.ingest = some r → r.level ≤ t.presence.effective) ∧
        (t.presence.effective = t.presence.demand ∨
          (∃ e ∈ t.presence.peers, e.phase = .live ∧ e.demand = t.presence.effective) ∨
          ∃ r, t.presence.ingest = some r ∧ r.level = t.presence.effective) ∧
        t.presence.joined = s.presence.joined ∧ t.presence.ticking = true ∧
        sameBut (.presence :: drainParts) s t)

/-- Tier 2. The tick's presence note replaces a queued one at its place, joins at the tail while there is room, or is
discarded at a full note part, and carries the values the tick has left; with no ingest record to age out and the output
not FREE (R121, R141). -/
def Obligations.PresenceNoteQueued : Prop :=
  ∀ s : State, s.resetHeld = false → s.presence.ticking = true → s.presence.ingest = none → s.spine.port ≠ .free →
    ∃ t n, exec .paceTick s = .next t ∧
      n.body =
        .presence s.presence.sequence s.station.phase t.presence.demand t.presence.effective t.presence.fill
          t.spine.hold s.markers.lastSeq ∧
      n.origin = s.unitOrigin ∧
      (∀ front old back, s.spine.notes = front ++ old :: back → (∀ m ∈ front, m.isPresence = false) →
        old.isPresence = true → t.spine.notes = front ++ n :: back) ∧
      ((∀ m ∈ s.spine.notes, m.isPresence = false) →
        (s.spine.notes.length < 8 → t.spine.notes = s.spine.notes ++ [n]) ∧
        (8 ≤ s.spine.notes.length → t.spine.notes = s.spine.notes))

/-- Tier 2. How a tick ages one peer entry: an ABSENT one stays, a LIVE or MISMATCHED one is STALE at age 8, a STALE one is
ABSENT with every field cleared at age 64 (R148). PEER_STALE_EXPIRY and PEER_ABSENT_EXPIRY make the same judgement of the
entry at an address, and reach no other entry; INGEST_AGE_OUT removes an ingest record of age 8 and ends ARCHIVE_HOLD
(R150); RING_OPEN sets RING_OPEN at a return counter of 8 (R143). Before their ages the four
commands change nothing, nor do the first two an entry in another state: that they judge anew is the model's reading of
their rows (log 3). -/
def Obligations.AgesRunOut : Prop :=
  ((∀ e : PeerEntry,
    (e.phase = .absent → e.aged = e) ∧
    ((e.phase = .live ∨ e.phase = .mismatched) →
      (e.age < 7 → e.aged = { e with age := e.age + 1 }) ∧
      (e.age = 7 → e.aged = { e with phase := .stale, age := 8 })) ∧
    (e.phase = .stale →
      (e.age < 63 → e.aged = { e with age := e.age + 1 }) ∧
      (e.age = 63 → e.aged = { phase := .absent }))) ∧
  ∀ (address : BitVec 4) (e : PeerEntry) (s : State), s.resetHeld = false → s.flagsFollow →
    1 ≤ address.toNat → address.toNat ≤ 14 → s.presence.peers[address.toNat - 1]? = some e →
    ((e.phase = .live ∨ e.phase = .mismatched) → 8 ≤ e.age →
      ∃ t, exec (.peerStaleExpiry address) s = .next t ∧
        t.presence = { s.presence with peers := s.presence.peers.set (address.toNat - 1) { e with phase := .stale } } ∧
        t.faults.flags.getLsbD 18 = true ∧ sameBut [.presence, .faults] s t) ∧
    ((e.phase = .absent ∨ e.phase = .stale ∨ e.age < 8) → exec (.peerStaleExpiry address) s = .next s) ∧
    ((e.phase ≠ .stale ∨ e.age < 64) → exec (.peerAbsentExpiry address) s = .next s) ∧
    (e.phase = .stale → 64 ≤ e.age →
      ∃ t, exec (.peerAbsentExpiry address) s = .next t ∧
        t.presence = { s.presence with peers := s.presence.peers.set (address.toNat - 1) { phase := .absent } } ∧
        sameBut [.presence, .faults] s t)) ∧
  ∀ s : State, s.resetHeld = false → s.flagsFollow →
    (∀ r, s.presence.ingest = some r → 8 ≤ r.age →
      ∃ t, exec .ingestAgeOut s = .next t ∧ t.presence = { s.presence with ingest := none } ∧
        t.spine.hold = { s.spine.hold with archiveHold := false } ∧ t.spine.transit = s.spine.transit ∧
        t.spine.frames = s.spine.frames ∧ sameBut [.presence, .spine, .faults] s t) ∧
    ((∀ r, s.presence.ingest = some r → r.age < 8) → exec .ingestAgeOut s = .next s) ∧
    (8 ≤ s.presence.returnCounter →
      ∃ t, exec .ringOpen s = .next t ∧
        t.spine = { s.spine with hold := { s.spine.hold with ringOpen := true } } ∧
        t.faults.flags.getLsbD 12 = true ∧ sameBut [.spine, .faults] s t) ∧
    (s.presence.returnCounter < 8 → exec .ringOpen s = .next s)

/-! ### What every step keeps -/

/-- Tier 3. Every queue and table stays within its size, a frame in assembly keeps a frame slot, at most one presence note
waits, and every counter stays in its range (R22, R39, R62, R68, R79, R93, R120, R122, R146, R174). -/
def Obligations.SizesKept : Prop :=
  ∀ s t : State, s.withinSizes → s.counters.within → step s = .next t → t.withinSizes ∧ t.counters.within

/-- Tier 3. No command but POWER_ON, RESET_ASSERT and RESET_RELEASE lowers a diagnostic counter (R174). -/
def Obligations.CountersOnlyRise : Prop :=
  ∀ (c : Instr) (s t : State), s.counters.within → (∀ straps, c ≠ .powerOn straps) → c ≠ .resetAssert →
    (∀ straps, c ≠ .resetRelease straps) → exec c s = .next t → t.counters.atLeast s.counters

/-- Tier 3. The intake's state agrees with the station's, the intake end is the intake point once it is frozen, and the
configuration, the pace tick and the refresh timer stand in every state but UNCONFIGURED; an ABSENT peer entry has every
other field zero, and the entry at the own address stays ABSENT (R4, R7, R31, R140, R146, R158, R160, R169). -/
def Obligations.PhasesAgreeKept : Prop :=
  (∀ s t : State, s.phasesAgree → step s = .next t → t.phasesAgree) ∧
  ∀ s t : State, s.peersSound → step s = .next t → t.peersSound

/-- Tier 3. The held count B stays between 0 and C (R12, R21), owed stays between -8 and +8 (R29, R30), and the DRAM's list
keeps its canonical form (log 13). -/
def Obligations.MemoryKept : Prop :=
  (∀ s t : State, s.phasesAgree → s.heldWithin → step s = .next t → t.heldWithin) ∧
  (∀ s t : State, s.owedWithin → step s = .next t → t.owedWithin) ∧
  ∀ s t : State, Memory.wf s.memory.dram = true → step s = .next t → Memory.wf t.memory.dram = true

/-- Tier 3. The transit buffer never holds more than 49,152 bytes (R127, R130, R131). -/
def Obligations.TransitKept : Prop :=
  (∀ s t : State, s.transitWithin → step s = .next t → t.transitWithin) ∧
  ∀ s : State, s.transitWithin → occupancy s.spine.transit ≤ 49152

/-- Tier 3. The live segments tile the run without gap or overlap; in RUN the newest of them is OPEN, and outside RUN none
is (R73, R74, R78, R81). -/
def Obligations.SegmentsKept : Prop :=
  ∀ s t : State, s.phasesAgree → s.segmentsSound → step s = .next t → t.segmentsSound

/-- Tier 3. A line's latch is set in LATCHED and RECOVERING and clear in ARMED and QUALIFYING, a noted index belongs to
QUALIFYING, no marker sequence is 0, and outside RUN every line is OFF (R54, R55, R56, R64). -/
def Obligations.MarkersSoundKept : Prop :=
  ∀ s t : State, s.markersSound → step s = .next t → t.markersSound

/-- Tier 3. The flag of every standing condition is set, and in LIVE mode the condition flags are exactly the conditions
(R175 to R178, R181). -/
def Obligations.FlagsFollowKept : Prop :=
  ∀ s t : State, s.phasesAgree → s.flagsFollow → step s = .next t → t.flagsFollow
end

