-- ==== Sys2Proof/Laws/State.lean ====
section
/-! SUPPORT. One lemma for each part of the state that a named update leaves alone, and for each field an update writes:
all true by unfolding, so that no later proof unfolds a record update. -/

namespace Sys2Proof.Machine

variable (s : State)

/-! ### The reset state -/

@[simp] theorem reset_pending : State.reset.pending = [] := rfl
@[simp] theorem reset_resetHeld : State.reset.resetHeld = false := rfl
@[simp] theorem reset_dram : State.reset.memory.dram = [] := rfl
theorem reset_dram_wf : Memory.wf State.reset.memory.dram = true := rfl

/-! ### setFlag -/

@[simp] theorem setFlag_intake (f : Flag) : (State.setFlag s f).intake = s.intake := rfl
@[simp] theorem setFlag_memory (f : Flag) : (State.setFlag s f).memory = s.memory := rfl
@[simp] theorem setFlag_gaps (f : Flag) : (State.setFlag s f).gaps = s.gaps := rfl
@[simp] theorem setFlag_markers (f : Flag) : (State.setFlag s f).markers = s.markers := rfl
@[simp] theorem setFlag_table (f : Flag) : (State.setFlag s f).table = s.table := rfl
@[simp] theorem setFlag_assembler (f : Flag) : (State.setFlag s f).assembler = s.assembler := rfl
@[simp] theorem setFlag_spine (f : Flag) : (State.setFlag s f).spine = s.spine := rfl
@[simp] theorem setFlag_presence (f : Flag) : (State.setFlag s f).presence = s.presence := rfl
@[simp] theorem setFlag_station (f : Flag) : (State.setFlag s f).station = s.station := rfl
@[simp] theorem setFlag_port (f : Flag) : (State.setFlag s f).port = s.port := rfl
@[simp] theorem setFlag_counters (f : Flag) : (State.setFlag s f).counters = s.counters := rfl
@[simp] theorem setFlag_resetHeld (f : Flag) : (State.setFlag s f).resetHeld = s.resetHeld := rfl
@[simp] theorem setFlag_pending (f : Flag) : (State.setFlag s f).pending = s.pending := rfl

/-! ### releaseBlock -/

@[simp] theorem releaseBlock_intake : (releaseBlock s).intake = s.intake := rfl
@[simp] theorem releaseBlock_gaps : (releaseBlock s).gaps = s.gaps := rfl
@[simp] theorem releaseBlock_markers : (releaseBlock s).markers = s.markers := rfl
@[simp] theorem releaseBlock_table : (releaseBlock s).table = s.table := rfl
@[simp] theorem releaseBlock_assembler : (releaseBlock s).assembler = s.assembler := rfl
@[simp] theorem releaseBlock_spine : (releaseBlock s).spine = s.spine := rfl
@[simp] theorem releaseBlock_presence : (releaseBlock s).presence = s.presence := rfl
@[simp] theorem releaseBlock_station : (releaseBlock s).station = s.station := rfl
@[simp] theorem releaseBlock_port : (releaseBlock s).port = s.port := rfl
@[simp] theorem releaseBlock_faults : (releaseBlock s).faults = s.faults := rfl
@[simp] theorem releaseBlock_counters : (releaseBlock s).counters = s.counters := rfl
@[simp] theorem releaseBlock_resetHeld : (releaseBlock s).resetHeld = s.resetHeld := rfl
@[simp] theorem releaseBlock_pending : (releaseBlock s).pending = s.pending := rfl

/-! ### onHeadSegment -/

@[simp] theorem onHeadSegment_intake (f : Segment → Segment) : (onHeadSegment f s).intake = s.intake := rfl
@[simp] theorem onHeadSegment_memory (f : Segment → Segment) : (onHeadSegment f s).memory = s.memory := rfl
@[simp] theorem onHeadSegment_gaps (f : Segment → Segment) : (onHeadSegment f s).gaps = s.gaps := rfl
@[simp] theorem onHeadSegment_markers (f : Segment → Segment) : (onHeadSegment f s).markers = s.markers := rfl
@[simp] theorem onHeadSegment_assembler (f : Segment → Segment) : (onHeadSegment f s).assembler = s.assembler := rfl
@[simp] theorem onHeadSegment_spine (f : Segment → Segment) : (onHeadSegment f s).spine = s.spine := rfl
@[simp] theorem onHeadSegment_presence (f : Segment → Segment) : (onHeadSegment f s).presence = s.presence := rfl
@[simp] theorem onHeadSegment_station (f : Segment → Segment) : (onHeadSegment f s).station = s.station := rfl
@[simp] theorem onHeadSegment_port (f : Segment → Segment) : (onHeadSegment f s).port = s.port := rfl
@[simp] theorem onHeadSegment_faults (f : Segment → Segment) : (onHeadSegment f s).faults = s.faults := rfl
@[simp] theorem onHeadSegment_counters (f : Segment → Segment) : (onHeadSegment f s).counters = s.counters := rfl
@[simp] theorem onHeadSegment_resetHeld (f : Segment → Segment) : (onHeadSegment f s).resetHeld = s.resetHeld := rfl
@[simp] theorem onHeadSegment_pending (f : Segment → Segment) : (onHeadSegment f s).pending = s.pending := rfl

/-! ### retireHead -/

@[simp] theorem retireHead_intake : (retireHead s).intake = s.intake := rfl
@[simp] theorem retireHead_memory : (retireHead s).memory = s.memory := rfl
@[simp] theorem retireHead_gaps : (retireHead s).gaps = s.gaps := rfl
@[simp] theorem retireHead_markers : (retireHead s).markers = s.markers := rfl
@[simp] theorem retireHead_assembler : (retireHead s).assembler = s.assembler := rfl
@[simp] theorem retireHead_spine : (retireHead s).spine = s.spine := rfl
@[simp] theorem retireHead_presence : (retireHead s).presence = s.presence := rfl
@[simp] theorem retireHead_station : (retireHead s).station = s.station := rfl
@[simp] theorem retireHead_port : (retireHead s).port = s.port := rfl
@[simp] theorem retireHead_faults : (retireHead s).faults = s.faults := rfl
@[simp] theorem retireHead_counters : (retireHead s).counters = s.counters := rfl
@[simp] theorem retireHead_resetHeld : (retireHead s).resetHeld = s.resetHeld := rfl
@[simp] theorem retireHead_pending : (retireHead s).pending = s.pending := rfl

/-! ### answer -/

@[simp] theorem answer_intake (bytes : List Byte) : (answer bytes s).intake = s.intake := rfl
@[simp] theorem answer_memory (bytes : List Byte) : (answer bytes s).memory = s.memory := rfl
@[simp] theorem answer_gaps (bytes : List Byte) : (answer bytes s).gaps = s.gaps := rfl
@[simp] theorem answer_markers (bytes : List Byte) : (answer bytes s).markers = s.markers := rfl
@[simp] theorem answer_table (bytes : List Byte) : (answer bytes s).table = s.table := rfl
@[simp] theorem answer_assembler (bytes : List Byte) : (answer bytes s).assembler = s.assembler := rfl
@[simp] theorem answer_spine (bytes : List Byte) : (answer bytes s).spine = s.spine := rfl
@[simp] theorem answer_presence (bytes : List Byte) : (answer bytes s).presence = s.presence := rfl
@[simp] theorem answer_station (bytes : List Byte) : (answer bytes s).station = s.station := rfl
@[simp] theorem answer_faults (bytes : List Byte) : (answer bytes s).faults = s.faults := rfl
@[simp] theorem answer_counters (bytes : List Byte) : (answer bytes s).counters = s.counters := rfl
@[simp] theorem answer_resetHeld (bytes : List Byte) : (answer bytes s).resetHeld = s.resetHeld := rfl
@[simp] theorem answer_pending (bytes : List Byte) : (answer bytes s).pending = s.pending := rfl

/-! ### movePort -/

@[simp] theorem movePort_intake (phase : PortPhase) : (movePort phase s).intake = s.intake := rfl
@[simp] theorem movePort_memory (phase : PortPhase) : (movePort phase s).memory = s.memory := rfl
@[simp] theorem movePort_gaps (phase : PortPhase) : (movePort phase s).gaps = s.gaps := rfl
@[simp] theorem movePort_markers (phase : PortPhase) : (movePort phase s).markers = s.markers := rfl
@[simp] theorem movePort_table (phase : PortPhase) : (movePort phase s).table = s.table := rfl
@[simp] theorem movePort_assembler (phase : PortPhase) : (movePort phase s).assembler = s.assembler := rfl
@[simp] theorem movePort_spine (phase : PortPhase) : (movePort phase s).spine = s.spine := rfl
@[simp] theorem movePort_presence (phase : PortPhase) : (movePort phase s).presence = s.presence := rfl
@[simp] theorem movePort_station (phase : PortPhase) : (movePort phase s).station = s.station := rfl
@[simp] theorem movePort_faults (phase : PortPhase) : (movePort phase s).faults = s.faults := rfl
@[simp] theorem movePort_counters (phase : PortPhase) : (movePort phase s).counters = s.counters := rfl
@[simp] theorem movePort_resetHeld (phase : PortPhase) : (movePort phase s).resetHeld = s.resetHeld := rfl
@[simp] theorem movePort_pending (phase : PortPhase) : (movePort phase s).pending = s.pending := rfl

/-! ### countDropped -/

@[simp] theorem countDropped_intake (k : Nat) : (countDropped k s).intake = s.intake := rfl
@[simp] theorem countDropped_memory (k : Nat) : (countDropped k s).memory = s.memory := rfl
@[simp] theorem countDropped_gaps (k : Nat) : (countDropped k s).gaps = s.gaps := rfl
@[simp] theorem countDropped_markers (k : Nat) : (countDropped k s).markers = s.markers := rfl
@[simp] theorem countDropped_table (k : Nat) : (countDropped k s).table = s.table := rfl
@[simp] theorem countDropped_assembler (k : Nat) : (countDropped k s).assembler = s.assembler := rfl
@[simp] theorem countDropped_spine (k : Nat) : (countDropped k s).spine = s.spine := rfl
@[simp] theorem countDropped_presence (k : Nat) : (countDropped k s).presence = s.presence := rfl
@[simp] theorem countDropped_station (k : Nat) : (countDropped k s).station = s.station := rfl
@[simp] theorem countDropped_port (k : Nat) : (countDropped k s).port = s.port := rfl
@[simp] theorem countDropped_faults (k : Nat) : (countDropped k s).faults = s.faults := rfl
@[simp] theorem countDropped_resetHeld (k : Nat) : (countDropped k s).resetHeld = s.resetHeld := rfl
@[simp] theorem countDropped_pending (k : Nat) : (countDropped k s).pending = s.pending := rfl

/-! ### sampleStraps -/

@[simp] theorem sampleStraps_intake (straps : BitVec 4) : (sampleStraps straps s).intake = s.intake := rfl
@[simp] theorem sampleStraps_memory (straps : BitVec 4) : (sampleStraps straps s).memory = s.memory := rfl
@[simp] theorem sampleStraps_gaps (straps : BitVec 4) : (sampleStraps straps s).gaps = s.gaps := rfl
@[simp] theorem sampleStraps_markers (straps : BitVec 4) : (sampleStraps straps s).markers = s.markers := rfl
@[simp] theorem sampleStraps_table (straps : BitVec 4) : (sampleStraps straps s).table = s.table := rfl
@[simp] theorem sampleStraps_assembler (straps : BitVec 4) : (sampleStraps straps s).assembler = s.assembler := rfl
@[simp] theorem sampleStraps_spine_strapSample (straps : BitVec 4) : (sampleStraps straps s).spine.strapSample = straps := rfl
@[simp] theorem sampleStraps_spine_ownAddress (straps : BitVec 4) :
    (sampleStraps straps s).spine.ownAddress = s.addressSampled straps := rfl
@[simp] theorem sampleStraps_presence_peers (straps : BitVec 4) :
    (sampleStraps straps s).presence.peers = peersSampled straps s.presence.peers := rfl
@[simp] theorem sampleStraps_presence_ticking (straps : BitVec 4) :
    (sampleStraps straps s).presence.ticking = s.presence.ticking := rfl
@[simp] theorem sampleStraps_presence_ingest (straps : BitVec 4) :
    (sampleStraps straps s).presence.ingest = s.presence.ingest := rfl
@[simp] theorem sampleStraps_presence_effective (straps : BitVec 4) :
    (sampleStraps straps s).presence.effective = s.presence.effective := rfl
@[simp] theorem sampleStraps_presence_demand (straps : BitVec 4) :
    (sampleStraps straps s).presence.demand = s.presence.demand := rfl
@[simp] theorem sampleStraps_presence_joined (straps : BitVec 4) :
    (sampleStraps straps s).presence.joined = s.presence.joined := rfl
@[simp] theorem sampleStraps_station (straps : BitVec 4) : (sampleStraps straps s).station = s.station := rfl
@[simp] theorem sampleStraps_port (straps : BitVec 4) : (sampleStraps straps s).port = s.port := rfl
@[simp] theorem sampleStraps_faults (straps : BitVec 4) : (sampleStraps straps s).faults = s.faults := rfl
@[simp] theorem sampleStraps_counters (straps : BitVec 4) : (sampleStraps straps s).counters = s.counters := rfl
@[simp] theorem sampleStraps_resetHeld (straps : BitVec 4) : (sampleStraps straps s).resetHeld = s.resetHeld := rfl
@[simp] theorem sampleStraps_pending (straps : BitVec 4) : (sampleStraps straps s).pending = s.pending := rfl

/-! ### snapshotFaults -/

@[simp] theorem snapshotFaults_intake : (snapshotFaults s).intake = s.intake := rfl
@[simp] theorem snapshotFaults_memory : (snapshotFaults s).memory = s.memory := rfl
@[simp] theorem snapshotFaults_gaps : (snapshotFaults s).gaps = s.gaps := rfl
@[simp] theorem snapshotFaults_markers : (snapshotFaults s).markers = s.markers := rfl
@[simp] theorem snapshotFaults_table : (snapshotFaults s).table = s.table := rfl
@[simp] theorem snapshotFaults_assembler : (snapshotFaults s).assembler = s.assembler := rfl
@[simp] theorem snapshotFaults_spine : (snapshotFaults s).spine = s.spine := rfl
@[simp] theorem snapshotFaults_presence : (snapshotFaults s).presence = s.presence := rfl
@[simp] theorem snapshotFaults_station : (snapshotFaults s).station = s.station := rfl
@[simp] theorem snapshotFaults_counters : (snapshotFaults s).counters = s.counters := rfl
@[simp] theorem snapshotFaults_resetHeld : (snapshotFaults s).resetHeld = s.resetHeld := rfl
@[simp] theorem snapshotFaults_pending : (snapshotFaults s).pending = s.pending := rfl

/-! ### endTransaction -/

@[simp] theorem endTransaction_intake : (endTransaction s).intake = s.intake := rfl
@[simp] theorem endTransaction_memory : (endTransaction s).memory = s.memory := rfl
@[simp] theorem endTransaction_gaps : (endTransaction s).gaps = s.gaps := rfl
@[simp] theorem endTransaction_markers : (endTransaction s).markers = s.markers := rfl
@[simp] theorem endTransaction_table : (endTransaction s).table = s.table := rfl
@[simp] theorem endTransaction_assembler : (endTransaction s).assembler = s.assembler := rfl
@[simp] theorem endTransaction_spine : (endTransaction s).spine = s.spine := rfl
@[simp] theorem endTransaction_presence : (endTransaction s).presence = s.presence := rfl
@[simp] theorem endTransaction_station : (endTransaction s).station = s.station := rfl
@[simp] theorem endTransaction_counters : (endTransaction s).counters = s.counters := rfl
@[simp] theorem endTransaction_resetHeld : (endTransaction s).resetHeld = s.resetHeld := rfl
@[simp] theorem endTransaction_pending : (endTransaction s).pending = s.pending := rfl

/-! ### rearmNamed -/

@[simp] theorem rearmNamed_intake (mask : Byte) : (rearmNamed mask s).intake = s.intake := rfl
@[simp] theorem rearmNamed_memory (mask : Byte) : (rearmNamed mask s).memory = s.memory := rfl
@[simp] theorem rearmNamed_gaps (mask : Byte) : (rearmNamed mask s).gaps = s.gaps := rfl
@[simp] theorem rearmNamed_table (mask : Byte) : (rearmNamed mask s).table = s.table := rfl
@[simp] theorem rearmNamed_assembler (mask : Byte) : (rearmNamed mask s).assembler = s.assembler := rfl
@[simp] theorem rearmNamed_spine (mask : Byte) : (rearmNamed mask s).spine = s.spine := rfl
@[simp] theorem rearmNamed_presence (mask : Byte) : (rearmNamed mask s).presence = s.presence := rfl
@[simp] theorem rearmNamed_station (mask : Byte) : (rearmNamed mask s).station = s.station := rfl
@[simp] theorem rearmNamed_port (mask : Byte) : (rearmNamed mask s).port = s.port := rfl
@[simp] theorem rearmNamed_faults (mask : Byte) : (rearmNamed mask s).faults = s.faults := rfl
@[simp] theorem rearmNamed_counters (mask : Byte) : (rearmNamed mask s).counters = s.counters := rfl
@[simp] theorem rearmNamed_resetHeld (mask : Byte) : (rearmNamed mask s).resetHeld = s.resetHeld := rfl
@[simp] theorem rearmNamed_pending (mask : Byte) : (rearmNamed mask s).pending = s.pending := rfl

/-! ### setLine -/

@[simp] theorem setLine_intake (line : Fin 4) (l : MarkerLine) : (setLine line l s).intake = s.intake := rfl
@[simp] theorem setLine_memory (line : Fin 4) (l : MarkerLine) : (setLine line l s).memory = s.memory := rfl
@[simp] theorem setLine_gaps (line : Fin 4) (l : MarkerLine) : (setLine line l s).gaps = s.gaps := rfl
@[simp] theorem setLine_table (line : Fin 4) (l : MarkerLine) : (setLine line l s).table = s.table := rfl
@[simp] theorem setLine_assembler (line : Fin 4) (l : MarkerLine) : (setLine line l s).assembler = s.assembler := rfl
@[simp] theorem setLine_spine (line : Fin 4) (l : MarkerLine) : (setLine line l s).spine = s.spine := rfl
@[simp] theorem setLine_presence (line : Fin 4) (l : MarkerLine) : (setLine line l s).presence = s.presence := rfl
@[simp] theorem setLine_station (line : Fin 4) (l : MarkerLine) : (setLine line l s).station = s.station := rfl
@[simp] theorem setLine_port (line : Fin 4) (l : MarkerLine) : (setLine line l s).port = s.port := rfl
@[simp] theorem setLine_faults (line : Fin 4) (l : MarkerLine) : (setLine line l s).faults = s.faults := rfl
@[simp] theorem setLine_counters (line : Fin 4) (l : MarkerLine) : (setLine line l s).counters = s.counters := rfl
@[simp] theorem setLine_resetHeld (line : Fin 4) (l : MarkerLine) : (setLine line l s).resetHeld = s.resetHeld := rfl
@[simp] theorem setLine_pending (line : Fin 4) (l : MarkerLine) : (setLine line l s).pending = s.pending := rfl

/-! ### suppressMarker -/

@[simp] theorem suppressMarker_intake : (suppressMarker s).intake = s.intake := rfl
@[simp] theorem suppressMarker_memory : (suppressMarker s).memory = s.memory := rfl
@[simp] theorem suppressMarker_gaps : (suppressMarker s).gaps = s.gaps := rfl
@[simp] theorem suppressMarker_markers : (suppressMarker s).markers = s.markers := rfl
@[simp] theorem suppressMarker_table : (suppressMarker s).table = s.table := rfl
@[simp] theorem suppressMarker_assembler : (suppressMarker s).assembler = s.assembler := rfl
@[simp] theorem suppressMarker_spine : (suppressMarker s).spine = s.spine := rfl
@[simp] theorem suppressMarker_presence : (suppressMarker s).presence = s.presence := rfl
@[simp] theorem suppressMarker_station : (suppressMarker s).station = s.station := rfl
@[simp] theorem suppressMarker_port : (suppressMarker s).port = s.port := rfl
@[simp] theorem suppressMarker_resetHeld : (suppressMarker s).resetHeld = s.resetHeld := rfl
@[simp] theorem suppressMarker_pending : (suppressMarker s).pending = s.pending := rfl

/-! ### writeSample -/

@[simp] theorem writeSample_memory (lanes : Vector Sample 8) : (writeSample lanes s).memory = s.memory := rfl
@[simp] theorem writeSample_gaps (lanes : Vector Sample 8) : (writeSample lanes s).gaps = s.gaps := rfl
@[simp] theorem writeSample_markers (lanes : Vector Sample 8) : (writeSample lanes s).markers = s.markers := rfl
@[simp] theorem writeSample_table (lanes : Vector Sample 8) : (writeSample lanes s).table = s.table := rfl
@[simp] theorem writeSample_assembler (lanes : Vector Sample 8) : (writeSample lanes s).assembler = s.assembler := rfl
@[simp] theorem writeSample_spine (lanes : Vector Sample 8) : (writeSample lanes s).spine = s.spine := rfl
@[simp] theorem writeSample_presence (lanes : Vector Sample 8) : (writeSample lanes s).presence = s.presence := rfl
@[simp] theorem writeSample_station (lanes : Vector Sample 8) : (writeSample lanes s).station = s.station := rfl
@[simp] theorem writeSample_port (lanes : Vector Sample 8) : (writeSample lanes s).port = s.port := rfl
@[simp] theorem writeSample_faults (lanes : Vector Sample 8) : (writeSample lanes s).faults = s.faults := rfl
@[simp] theorem writeSample_counters (lanes : Vector Sample 8) : (writeSample lanes s).counters = s.counters := rfl
@[simp] theorem writeSample_resetHeld (lanes : Vector Sample 8) : (writeSample lanes s).resetHeld = s.resetHeld := rfl
@[simp] theorem writeSample_pending (lanes : Vector Sample 8) : (writeSample lanes s).pending = s.pending := rfl

/-! ### setLane -/

@[simp] theorem setLane_memory (lane : Fin 8) (out : Bool) : (setLane lane out s).memory = s.memory := rfl
@[simp] theorem setLane_gaps (lane : Fin 8) (out : Bool) : (setLane lane out s).gaps = s.gaps := rfl
@[simp] theorem setLane_markers (lane : Fin 8) (out : Bool) : (setLane lane out s).markers = s.markers := rfl
@[simp] theorem setLane_table (lane : Fin 8) (out : Bool) : (setLane lane out s).table = s.table := rfl
@[simp] theorem setLane_assembler (lane : Fin 8) (out : Bool) : (setLane lane out s).assembler = s.assembler := rfl
@[simp] theorem setLane_spine (lane : Fin 8) (out : Bool) : (setLane lane out s).spine = s.spine := rfl
@[simp] theorem setLane_presence (lane : Fin 8) (out : Bool) : (setLane lane out s).presence = s.presence := rfl
@[simp] theorem setLane_station (lane : Fin 8) (out : Bool) : (setLane lane out s).station = s.station := rfl
@[simp] theorem setLane_port (lane : Fin 8) (out : Bool) : (setLane lane out s).port = s.port := rfl
@[simp] theorem setLane_faults (lane : Fin 8) (out : Bool) : (setLane lane out s).faults = s.faults := rfl
@[simp] theorem setLane_counters (lane : Fin 8) (out : Bool) : (setLane lane out s).counters = s.counters := rfl
@[simp] theorem setLane_resetHeld (lane : Fin 8) (out : Bool) : (setLane lane out s).resetHeld = s.resetHeld := rfl
@[simp] theorem setLane_pending (lane : Fin 8) (out : Bool) : (setLane lane out s).pending = s.pending := rfl

/-! ### noteReceived -/

@[simp] theorem noteReceived_intake (arrived : List Byte) : (noteReceived arrived s).intake = s.intake := rfl
@[simp] theorem noteReceived_memory (arrived : List Byte) : (noteReceived arrived s).memory = s.memory := rfl
@[simp] theorem noteReceived_gaps (arrived : List Byte) : (noteReceived arrived s).gaps = s.gaps := rfl
@[simp] theorem noteReceived_markers (arrived : List Byte) : (noteReceived arrived s).markers = s.markers := rfl
@[simp] theorem noteReceived_table (arrived : List Byte) : (noteReceived arrived s).table = s.table := rfl
@[simp] theorem noteReceived_assembler (arrived : List Byte) : (noteReceived arrived s).assembler = s.assembler := rfl
@[simp] theorem noteReceived_presence (arrived : List Byte) : (noteReceived arrived s).presence = s.presence := rfl
@[simp] theorem noteReceived_station (arrived : List Byte) : (noteReceived arrived s).station = s.station := rfl
@[simp] theorem noteReceived_port (arrived : List Byte) : (noteReceived arrived s).port = s.port := rfl
@[simp] theorem noteReceived_faults (arrived : List Byte) : (noteReceived arrived s).faults = s.faults := rfl
@[simp] theorem noteReceived_counters (arrived : List Byte) : (noteReceived arrived s).counters = s.counters := rfl
@[simp] theorem noteReceived_resetHeld (arrived : List Byte) : (noteReceived arrived s).resetHeld = s.resetHeld := rfl
@[simp] theorem noteReceived_pending (arrived : List Byte) : (noteReceived arrived s).pending = s.pending := rfl

/-! ### noteSentUnit -/

@[simp] theorem noteSentUnit_intake : (noteSentUnit s).intake = s.intake := rfl
@[simp] theorem noteSentUnit_memory : (noteSentUnit s).memory = s.memory := rfl
@[simp] theorem noteSentUnit_gaps : (noteSentUnit s).gaps = s.gaps := rfl
@[simp] theorem noteSentUnit_markers : (noteSentUnit s).markers = s.markers := rfl
@[simp] theorem noteSentUnit_table : (noteSentUnit s).table = s.table := rfl
@[simp] theorem noteSentUnit_assembler : (noteSentUnit s).assembler = s.assembler := rfl
@[simp] theorem noteSentUnit_presence : (noteSentUnit s).presence = s.presence := rfl
@[simp] theorem noteSentUnit_station : (noteSentUnit s).station = s.station := rfl
@[simp] theorem noteSentUnit_port : (noteSentUnit s).port = s.port := rfl
@[simp] theorem noteSentUnit_faults : (noteSentUnit s).faults = s.faults := rfl
@[simp] theorem noteSentUnit_counters : (noteSentUnit s).counters = s.counters := rfl
@[simp] theorem noteSentUnit_resetHeld : (noteSentUnit s).resetHeld = s.resetHeld := rfl
@[simp] theorem noteSentUnit_pending : (noteSentUnit s).pending = s.pending := rfl
@[simp] theorem noteSentUnit_spine_ownAddress : (noteSentUnit s).spine.ownAddress = s.spine.ownAddress := rfl
@[simp] theorem noteSentUnit_spine_strapSample : (noteSentUnit s).spine.strapSample = s.spine.strapSample := rfl
@[simp] theorem noteSentUnit_spine_input : (noteSentUnit s).spine.input = s.spine.input := rfl
@[simp] theorem noteSentUnit_spine_transit : (noteSentUnit s).spine.transit = s.spine.transit := rfl
@[simp] theorem noteSentUnit_spine_port : (noteSentUnit s).spine.port = s.spine.port := rfl
@[simp] theorem noteSentUnit_spine_notes : (noteSentUnit s).spine.notes = s.spine.notes := rfl
@[simp] theorem noteSentUnit_spine_frames : (noteSentUnit s).spine.frames = s.spine.frames := rfl
@[simp] theorem noteSentUnit_spine_hold : (noteSentUnit s).spine.hold = s.spine.hold := rfl
@[simp] theorem noteSentUnit_spine_lastSent : (noteSentUnit s).spine.lastSent = s.outputUnit := rfl

/-! ### setInput -/

@[simp] theorem setInput_intake (header : List Byte) (fate : ArrivalFate) : (setInput header fate s).intake = s.intake := rfl
@[simp] theorem setInput_memory (header : List Byte) (fate : ArrivalFate) : (setInput header fate s).memory = s.memory := rfl
@[simp] theorem setInput_gaps (header : List Byte) (fate : ArrivalFate) : (setInput header fate s).gaps = s.gaps := rfl
@[simp] theorem setInput_markers (header : List Byte) (fate : ArrivalFate) : (setInput header fate s).markers = s.markers := rfl
@[simp] theorem setInput_table (header : List Byte) (fate : ArrivalFate) : (setInput header fate s).table = s.table := rfl
@[simp] theorem setInput_assembler (header : List Byte) (fate : ArrivalFate) : (setInput header fate s).assembler = s.assembler := rfl
@[simp] theorem setInput_presence (header : List Byte) (fate : ArrivalFate) : (setInput header fate s).presence = s.presence := rfl
@[simp] theorem setInput_station (header : List Byte) (fate : ArrivalFate) : (setInput header fate s).station = s.station := rfl
@[simp] theorem setInput_port (header : List Byte) (fate : ArrivalFate) : (setInput header fate s).port = s.port := rfl
@[simp] theorem setInput_faults (header : List Byte) (fate : ArrivalFate) : (setInput header fate s).faults = s.faults := rfl
@[simp] theorem setInput_counters (header : List Byte) (fate : ArrivalFate) : (setInput header fate s).counters = s.counters := rfl
@[simp] theorem setInput_resetHeld (header : List Byte) (fate : ArrivalFate) : (setInput header fate s).resetHeld = s.resetHeld := rfl
@[simp] theorem setInput_pending (header : List Byte) (fate : ArrivalFate) : (setInput header fate s).pending = s.pending := rfl

/-! ### countCheckError -/

@[simp] theorem countCheckError_intake : (countCheckError s).intake = s.intake := rfl
@[simp] theorem countCheckError_memory : (countCheckError s).memory = s.memory := rfl
@[simp] theorem countCheckError_gaps : (countCheckError s).gaps = s.gaps := rfl
@[simp] theorem countCheckError_markers : (countCheckError s).markers = s.markers := rfl
@[simp] theorem countCheckError_table : (countCheckError s).table = s.table := rfl
@[simp] theorem countCheckError_assembler : (countCheckError s).assembler = s.assembler := rfl
@[simp] theorem countCheckError_spine : (countCheckError s).spine = s.spine := rfl
@[simp] theorem countCheckError_presence : (countCheckError s).presence = s.presence := rfl
@[simp] theorem countCheckError_station : (countCheckError s).station = s.station := rfl
@[simp] theorem countCheckError_port : (countCheckError s).port = s.port := rfl
@[simp] theorem countCheckError_resetHeld : (countCheckError s).resetHeld = s.resetHeld := rfl
@[simp] theorem countCheckError_pending : (countCheckError s).pending = s.pending := rfl

/-! ### countOverflow -/

@[simp] theorem countOverflow_intake : (countOverflow s).intake = s.intake := rfl
@[simp] theorem countOverflow_memory : (countOverflow s).memory = s.memory := rfl
@[simp] theorem countOverflow_gaps : (countOverflow s).gaps = s.gaps := rfl
@[simp] theorem countOverflow_markers : (countOverflow s).markers = s.markers := rfl
@[simp] theorem countOverflow_table : (countOverflow s).table = s.table := rfl
@[simp] theorem countOverflow_assembler : (countOverflow s).assembler = s.assembler := rfl
@[simp] theorem countOverflow_spine : (countOverflow s).spine = s.spine := rfl
@[simp] theorem countOverflow_presence : (countOverflow s).presence = s.presence := rfl
@[simp] theorem countOverflow_station : (countOverflow s).station = s.station := rfl
@[simp] theorem countOverflow_port : (countOverflow s).port = s.port := rfl
@[simp] theorem countOverflow_resetHeld : (countOverflow s).resetHeld = s.resetHeld := rfl
@[simp] theorem countOverflow_pending : (countOverflow s).pending = s.pending := rfl

/-! ### countOrphan -/

@[simp] theorem countOrphan_intake : (countOrphan s).intake = s.intake := rfl
@[simp] theorem countOrphan_memory : (countOrphan s).memory = s.memory := rfl
@[simp] theorem countOrphan_gaps : (countOrphan s).gaps = s.gaps := rfl
@[simp] theorem countOrphan_markers : (countOrphan s).markers = s.markers := rfl
@[simp] theorem countOrphan_table : (countOrphan s).table = s.table := rfl
@[simp] theorem countOrphan_assembler : (countOrphan s).assembler = s.assembler := rfl
@[simp] theorem countOrphan_spine : (countOrphan s).spine = s.spine := rfl
@[simp] theorem countOrphan_presence : (countOrphan s).presence = s.presence := rfl
@[simp] theorem countOrphan_station : (countOrphan s).station = s.station := rfl
@[simp] theorem countOrphan_port : (countOrphan s).port = s.port := rfl
@[simp] theorem countOrphan_resetHeld : (countOrphan s).resetHeld = s.resetHeld := rfl
@[simp] theorem countOrphan_pending : (countOrphan s).pending = s.pending := rfl

/-! ### agePeers -/

@[simp] theorem agePeers_intake : (agePeers s).intake = s.intake := rfl
@[simp] theorem agePeers_memory : (agePeers s).memory = s.memory := rfl
@[simp] theorem agePeers_gaps : (agePeers s).gaps = s.gaps := rfl
@[simp] theorem agePeers_markers : (agePeers s).markers = s.markers := rfl
@[simp] theorem agePeers_table : (agePeers s).table = s.table := rfl
@[simp] theorem agePeers_assembler : (agePeers s).assembler = s.assembler := rfl
@[simp] theorem agePeers_spine : (agePeers s).spine = s.spine := rfl
@[simp] theorem agePeers_station : (agePeers s).station = s.station := rfl
@[simp] theorem agePeers_port : (agePeers s).port = s.port := rfl
@[simp] theorem agePeers_faults : (agePeers s).faults = s.faults := rfl
@[simp] theorem agePeers_counters : (agePeers s).counters = s.counters := rfl
@[simp] theorem agePeers_resetHeld : (agePeers s).resetHeld = s.resetHeld := rfl
@[simp] theorem agePeers_pending : (agePeers s).pending = s.pending := rfl

/-! ### computeLevels -/

@[simp] theorem computeLevels_intake : (computeLevels s).intake = s.intake := rfl
@[simp] theorem computeLevels_memory : (computeLevels s).memory = s.memory := rfl
@[simp] theorem computeLevels_gaps : (computeLevels s).gaps = s.gaps := rfl
@[simp] theorem computeLevels_markers : (computeLevels s).markers = s.markers := rfl
@[simp] theorem computeLevels_table : (computeLevels s).table = s.table := rfl
@[simp] theorem computeLevels_assembler : (computeLevels s).assembler = s.assembler := rfl
@[simp] theorem computeLevels_spine : (computeLevels s).spine = s.spine := rfl
@[simp] theorem computeLevels_station : (computeLevels s).station = s.station := rfl
@[simp] theorem computeLevels_port : (computeLevels s).port = s.port := rfl
@[simp] theorem computeLevels_faults : (computeLevels s).faults = s.faults := rfl
@[simp] theorem computeLevels_counters : (computeLevels s).counters = s.counters := rfl
@[simp] theorem computeLevels_resetHeld : (computeLevels s).resetHeld = s.resetHeld := rfl
@[simp] theorem computeLevels_pending : (computeLevels s).pending = s.pending := rfl

/-! ### takeReturn -/

@[simp] theorem takeReturn_intake : (takeReturn s).intake = s.intake := rfl
@[simp] theorem takeReturn_memory : (takeReturn s).memory = s.memory := rfl
@[simp] theorem takeReturn_gaps : (takeReturn s).gaps = s.gaps := rfl
@[simp] theorem takeReturn_markers : (takeReturn s).markers = s.markers := rfl
@[simp] theorem takeReturn_table : (takeReturn s).table = s.table := rfl
@[simp] theorem takeReturn_assembler : (takeReturn s).assembler = s.assembler := rfl
@[simp] theorem takeReturn_port : (takeReturn s).port = s.port := rfl
@[simp] theorem takeReturn_faults : (takeReturn s).faults = s.faults := rfl
@[simp] theorem takeReturn_counters : (takeReturn s).counters = s.counters := rfl
@[simp] theorem takeReturn_resetHeld : (takeReturn s).resetHeld = s.resetHeld := rfl
@[simp] theorem takeReturn_pending : (takeReturn s).pending = s.pending := rfl

/-! ### What the updates write -/

@[simp] theorem setFlag_flags (f : Flag) : (s.setFlag f).faults.flags = s.faults.flags ||| f.mask true := rfl
@[simp] theorem setFlag_mode (f : Flag) : (s.setFlag f).faults.mode = s.faults.mode := rfl
@[simp] theorem setFlag_alertMask (f : Flag) : (s.setFlag f).faults.alertMask = s.faults.alertMask := rfl
@[simp] theorem raise_flags (m : FaultMonitor) (w : BitVec 24) : (m.raise w).flags = m.flags ||| w := rfl
@[simp] theorem raise_mode (m : FaultMonitor) (w : BitVec 24) : (m.raise w).mode = m.mode := rfl
@[simp] theorem raise_alertMask (m : FaultMonitor) (w : BitVec 24) : (m.raise w).alertMask = m.alertMask := rfl
@[simp] theorem answer_port (bytes : List Byte) : (answer bytes s).port = { phase := .reply, reply := bytes } := rfl
@[simp] theorem movePort_phase (phase : PortPhase) : (movePort phase s).port.phase = phase := rfl
@[simp] theorem movePort_reply (phase : PortPhase) : (movePort phase s).port.reply = s.port.reply := rfl
@[simp] theorem releaseBlock_storedCount :
    (releaseBlock s).memory.storedCount = s.memory.storedCount - 1 := rfl
@[simp] theorem releaseBlock_drainSlot :
    (releaseBlock s).memory.drainSlot = nextSlot s.capacity s.memory.drainSlot := rfl
@[simp] theorem releaseBlock_dram : (releaseBlock s).memory.dram = s.memory.dram := rfl
@[simp] theorem releaseBlock_staging : (releaseBlock s).memory.staging = s.memory.staging := rfl
@[simp] theorem releaseBlock_writeSlot : (releaseBlock s).memory.writeSlot = s.memory.writeSlot := rfl
@[simp] theorem releaseBlock_owed : (releaseBlock s).memory.owed = s.memory.owed := rfl
@[simp] theorem releaseBlock_refreshTimer : (releaseBlock s).memory.refreshTimer = s.memory.refreshTimer := rfl
@[simp] theorem releaseBlock_thermal : (releaseBlock s).memory.thermal = s.memory.thermal := rfl
@[simp] theorem releaseBlock_selfRefresh : (releaseBlock s).memory.selfRefresh = s.memory.selfRefresh := rfl
@[simp] theorem releaseBlock_readRequest : (releaseBlock s).memory.readRequest = s.memory.readRequest := rfl
@[simp] theorem releaseBlock_op : (releaseBlock s).memory.op = s.memory.op := rfl
@[simp] theorem onHeadSegment_live (f : Segment → Segment) :
    (onHeadSegment f s).table.live = mapHead f s.table.live := rfl
@[simp] theorem onHeadSegment_queue (f : Segment → Segment) : (onHeadSegment f s).table.queue = s.table.queue := rfl
@[simp] theorem onHeadSegment_head (f : Segment → Segment) : (onHeadSegment f s).table.head = s.table.head := rfl
@[simp] theorem retireHead_live : (retireHead s).table.live = s.table.live.tail := rfl
@[simp] theorem retireHead_queue : (retireHead s).table.queue = s.table.queue := rfl
@[simp] theorem retireHead_head : (retireHead s).table.head = positionOf s.table.head 1 := rfl
@[simp] theorem writeSample_point (lanes : Vector Sample 8) :
    (writeSample lanes s).intake.point = s.intake.point + 1 := rfl
@[simp] theorem writeSample_phase (lanes : Vector Sample 8) :
    (writeSample lanes s).intake.phase = s.intake.phase := rfl
@[simp] theorem writeSample_ending (lanes : Vector Sample 8) :
    (writeSample lanes s).intake.ending = s.intake.ending := rfl
@[simp] theorem freshStation_pending : (freshStation s).pending = s.pending := rfl
@[simp] theorem freshStation_resetHeld : (freshStation s).resetHeld = false := rfl
@[simp] theorem heldInReset_pending : (heldInReset s).pending = s.pending := rfl
@[simp] theorem heldInReset_resetHeld : (heldInReset s).resetHeld = true := rfl
@[simp] theorem softResetStation_pending : (softResetStation s).pending = s.pending := rfl
@[simp] theorem softResetStation_resetHeld : (softResetStation s).resetHeld = s.resetHeld := rfl
@[simp] theorem softResetStation_counters : (softResetStation s).counters = s.counters := rfl
@[simp] theorem softResetStation_port : (softResetStation s).port = s.port := rfl
@[simp] theorem beginRun_pending : (beginRun s).pending = s.pending := rfl
@[simp] theorem beginRun_resetHeld : (beginRun s).resetHeld = s.resetHeld := rfl
@[simp] theorem beginRun_spine : (beginRun s).spine = s.spine := rfl
@[simp] theorem beginRun_presence : (beginRun s).presence = s.presence := rfl
@[simp] theorem beginRun_port : (beginRun s).port = s.port := rfl
@[simp] theorem beginRun_faults : (beginRun s).faults = s.faults := rfl
@[simp] theorem beginRun_counters : (beginRun s).counters = s.counters := rfl

/-! ### The hand-on of a unit and the output of the management port -/

/-- A unit with a payload that was accepted is handed to no block (R134). -/
theorem handOn_payload (header : List Byte) (h : payloadLengthOf header ≠ 0) : handOn header s = s := by
  unfold handOn; rw [if_pos h]

/-- A unit is good exactly when it was received whole and its check word matches (R119, R133). -/
theorem isGood_iff (header rest : List Byte) :
    isGood header rest = true ↔
      60 + rest.length = unitLengthOf header ∧
        fieldAt rest (payloadLengthOf header) 4 =
          (checkWord header (rest.take (payloadLengthOf header))).toNat := by
  unfold isGood; simp

/-- SDO is at high impedance while RESET# is asserted (R170). -/
theorem sdo_held (sent : Nat) (h : s.resetHeld = true) : s.sdo sent = none := by
  unfold State.sdo; rw [if_pos h]

end Sys2Proof.Machine
end

