-- ==== Sys2Proof/Laws/Output.lean ====
section
/-! SUPPORT. The output port and the Emit Queue: what an arbiter choice reaches (R120 to R127). -/

namespace Sys2Proof.Machine

variable (s : State)

@[simp] theorem chooseOutput_intake : (chooseOutput s).intake = s.intake := by
  unfold chooseOutput; split
  · rfl
  · split
    · rfl
    · split
      · rfl
      · split <;> rfl
@[simp] theorem chooseOutput_memory : (chooseOutput s).memory = s.memory := by
  unfold chooseOutput; split
  · rfl
  · split
    · rfl
    · split
      · rfl
      · split <;> rfl
@[simp] theorem chooseOutput_gaps : (chooseOutput s).gaps = s.gaps := by
  unfold chooseOutput; split
  · rfl
  · split
    · rfl
    · split
      · rfl
      · split <;> rfl
@[simp] theorem chooseOutput_markers : (chooseOutput s).markers = s.markers := by
  unfold chooseOutput; split
  · rfl
  · split
    · rfl
    · split
      · rfl
      · split <;> rfl
@[simp] theorem chooseOutput_table : (chooseOutput s).table = s.table := by
  unfold chooseOutput; split
  · rfl
  · split
    · rfl
    · split
      · rfl
      · split <;> rfl
@[simp] theorem chooseOutput_assembler : (chooseOutput s).assembler = s.assembler := by
  unfold chooseOutput; split
  · rfl
  · split
    · rfl
    · split
      · rfl
      · split <;> rfl
@[simp] theorem chooseOutput_presence : (chooseOutput s).presence = s.presence := by
  unfold chooseOutput; split
  · rfl
  · split
    · rfl
    · split
      · rfl
      · split <;> rfl
@[simp] theorem chooseOutput_station : (chooseOutput s).station = s.station := by
  unfold chooseOutput; split
  · rfl
  · split
    · rfl
    · split
      · rfl
      · split <;> rfl
@[simp] theorem chooseOutput_port : (chooseOutput s).port = s.port := by
  unfold chooseOutput; split
  · rfl
  · split
    · rfl
    · split
      · rfl
      · split <;> rfl
@[simp] theorem chooseOutput_faults : (chooseOutput s).faults = s.faults := by
  unfold chooseOutput; split
  · rfl
  · split
    · rfl
    · split
      · rfl
      · split <;> rfl
@[simp] theorem chooseOutput_counters : (chooseOutput s).counters = s.counters := by
  unfold chooseOutput; split
  · rfl
  · split
    · rfl
    · split
      · rfl
      · split <;> rfl
@[simp] theorem chooseOutput_resetHeld : (chooseOutput s).resetHeld = s.resetHeld := by
  unfold chooseOutput; split
  · rfl
  · split
    · rfl
    · split
      · rfl
      · split <;> rfl
@[simp] theorem chooseOutput_pending : (chooseOutput s).pending = s.pending := by
  unfold chooseOutput; split
  · rfl
  · split
    · rfl
    · split
      · rfl
      · split <;> rfl
@[simp] theorem chooseOutput_spine_ownAddress : (chooseOutput s).spine.ownAddress = s.spine.ownAddress := by
  unfold chooseOutput; split
  · rfl
  · split
    · rfl
    · split
      · rfl
      · split <;> rfl
@[simp] theorem chooseOutput_spine_strapSample : (chooseOutput s).spine.strapSample = s.spine.strapSample := by
  unfold chooseOutput; split
  · rfl
  · split
    · rfl
    · split
      · rfl
      · split <;> rfl
@[simp] theorem chooseOutput_spine_input : (chooseOutput s).spine.input = s.spine.input := by
  unfold chooseOutput; split
  · rfl
  · split
    · rfl
    · split
      · rfl
      · split <;> rfl
@[simp] theorem chooseOutput_spine_transit : (chooseOutput s).spine.transit = s.spine.transit := by
  unfold chooseOutput; split
  · rfl
  · split
    · rfl
    · split
      · rfl
      · split <;> rfl
@[simp] theorem chooseOutput_spine_frames : (chooseOutput s).spine.frames = s.spine.frames := by
  unfold chooseOutput; split
  · rfl
  · split
    · rfl
    · split
      · rfl
      · split <;> rfl
@[simp] theorem chooseOutput_spine_hold : (chooseOutput s).spine.hold = s.spine.hold := by
  unfold chooseOutput; split
  · rfl
  · split
    · rfl
    · split
      · rfl
      · split <;> rfl
@[simp] theorem chooseOutput_spine_lastSent : (chooseOutput s).spine.lastSent = s.spine.lastSent := by
  unfold chooseOutput; split
  · rfl
  · split
    · rfl
    · split
      · rfl
      · split <;> rfl
@[simp] theorem arbitrate_intake : (arbitrate s).intake = s.intake := by
  unfold arbitrate; split
  · simp
  · rfl
@[simp] theorem arbitrate_memory : (arbitrate s).memory = s.memory := by
  unfold arbitrate; split
  · simp
  · rfl
@[simp] theorem arbitrate_gaps : (arbitrate s).gaps = s.gaps := by
  unfold arbitrate; split
  · simp
  · rfl
@[simp] theorem arbitrate_markers : (arbitrate s).markers = s.markers := by
  unfold arbitrate; split
  · simp
  · rfl
@[simp] theorem arbitrate_table : (arbitrate s).table = s.table := by
  unfold arbitrate; split
  · simp
  · rfl
@[simp] theorem arbitrate_assembler : (arbitrate s).assembler = s.assembler := by
  unfold arbitrate; split
  · simp
  · rfl
@[simp] theorem arbitrate_presence : (arbitrate s).presence = s.presence := by
  unfold arbitrate; split
  · simp
  · rfl
@[simp] theorem arbitrate_station : (arbitrate s).station = s.station := by
  unfold arbitrate; split
  · simp
  · rfl
@[simp] theorem arbitrate_port : (arbitrate s).port = s.port := by
  unfold arbitrate; split
  · simp
  · rfl
@[simp] theorem arbitrate_faults : (arbitrate s).faults = s.faults := by
  unfold arbitrate; split
  · simp
  · rfl
@[simp] theorem arbitrate_counters : (arbitrate s).counters = s.counters := by
  unfold arbitrate; split
  · simp
  · rfl
@[simp] theorem arbitrate_resetHeld : (arbitrate s).resetHeld = s.resetHeld := by
  unfold arbitrate; split
  · simp
  · rfl
@[simp] theorem arbitrate_pending : (arbitrate s).pending = s.pending := by
  unfold arbitrate; split
  · simp
  · rfl
@[simp] theorem arbitrate_spine_ownAddress : (arbitrate s).spine.ownAddress = s.spine.ownAddress := by
  unfold arbitrate; split
  · simp
  · rfl
@[simp] theorem arbitrate_spine_strapSample : (arbitrate s).spine.strapSample = s.spine.strapSample := by
  unfold arbitrate; split
  · simp
  · rfl
@[simp] theorem arbitrate_spine_input : (arbitrate s).spine.input = s.spine.input := by
  unfold arbitrate; split
  · simp
  · rfl
@[simp] theorem arbitrate_spine_transit : (arbitrate s).spine.transit = s.spine.transit := by
  unfold arbitrate; split
  · simp
  · rfl
@[simp] theorem arbitrate_spine_frames : (arbitrate s).spine.frames = s.spine.frames := by
  unfold arbitrate; split
  · simp
  · rfl
@[simp] theorem arbitrate_spine_hold : (arbitrate s).spine.hold = s.spine.hold := by
  unfold arbitrate; split
  · simp
  · rfl
@[simp] theorem arbitrate_spine_lastSent : (arbitrate s).spine.lastSent = s.spine.lastSent := by
  unfold arbitrate; split
  · simp
  · rfl
@[simp] theorem outputFreed_intake : (outputFreed s).intake = s.intake := by
  unfold outputFreed; simp
@[simp] theorem outputFreed_memory : (outputFreed s).memory = s.memory := by
  unfold outputFreed; simp
@[simp] theorem outputFreed_gaps : (outputFreed s).gaps = s.gaps := by
  unfold outputFreed; simp
@[simp] theorem outputFreed_markers : (outputFreed s).markers = s.markers := by
  unfold outputFreed; simp
@[simp] theorem outputFreed_table : (outputFreed s).table = s.table := by
  unfold outputFreed; simp
@[simp] theorem outputFreed_assembler : (outputFreed s).assembler = s.assembler := by
  unfold outputFreed; simp
@[simp] theorem outputFreed_presence : (outputFreed s).presence = s.presence := by
  unfold outputFreed; simp
@[simp] theorem outputFreed_station : (outputFreed s).station = s.station := by
  unfold outputFreed; simp
@[simp] theorem outputFreed_port : (outputFreed s).port = s.port := by
  unfold outputFreed; simp
@[simp] theorem outputFreed_faults : (outputFreed s).faults = s.faults := by
  unfold outputFreed; simp
@[simp] theorem outputFreed_counters : (outputFreed s).counters = s.counters := by
  unfold outputFreed; simp
@[simp] theorem outputFreed_resetHeld : (outputFreed s).resetHeld = s.resetHeld := by
  unfold outputFreed; simp
@[simp] theorem outputFreed_pending : (outputFreed s).pending = s.pending := by
  unfold outputFreed; simp
@[simp] theorem outputFreed_spine_ownAddress : (outputFreed s).spine.ownAddress = s.spine.ownAddress := by
  unfold outputFreed; simp
@[simp] theorem outputFreed_spine_strapSample : (outputFreed s).spine.strapSample = s.spine.strapSample := by
  unfold outputFreed; simp
@[simp] theorem outputFreed_spine_input : (outputFreed s).spine.input = s.spine.input := by
  unfold outputFreed; simp
@[simp] theorem outputFreed_spine_transit : (outputFreed s).spine.transit = s.spine.transit := by
  unfold outputFreed; simp
@[simp] theorem outputFreed_spine_frames : (outputFreed s).spine.frames = s.spine.frames := by
  unfold outputFreed; simp
@[simp] theorem outputFreed_spine_hold : (outputFreed s).spine.hold = s.spine.hold := by
  unfold outputFreed; simp
@[simp] theorem outputFreed_spine_lastSent : (outputFreed s).spine.lastSent = s.spine.lastSent := by
  unfold outputFreed; simp
@[simp] theorem joinNote_intake (n : Note) : (joinNote n s).intake = s.intake := by
  unfold joinNote; simp
@[simp] theorem joinNote_memory (n : Note) : (joinNote n s).memory = s.memory := by
  unfold joinNote; simp
@[simp] theorem joinNote_gaps (n : Note) : (joinNote n s).gaps = s.gaps := by
  unfold joinNote; simp
@[simp] theorem joinNote_markers (n : Note) : (joinNote n s).markers = s.markers := by
  unfold joinNote; simp
@[simp] theorem joinNote_table (n : Note) : (joinNote n s).table = s.table := by
  unfold joinNote; simp
@[simp] theorem joinNote_assembler (n : Note) : (joinNote n s).assembler = s.assembler := by
  unfold joinNote; simp
@[simp] theorem joinNote_presence (n : Note) : (joinNote n s).presence = s.presence := by
  unfold joinNote; simp
@[simp] theorem joinNote_station (n : Note) : (joinNote n s).station = s.station := by
  unfold joinNote; simp
@[simp] theorem joinNote_port (n : Note) : (joinNote n s).port = s.port := by
  unfold joinNote; simp
@[simp] theorem joinNote_faults (n : Note) : (joinNote n s).faults = s.faults := by
  unfold joinNote; simp
@[simp] theorem joinNote_counters (n : Note) : (joinNote n s).counters = s.counters := by
  unfold joinNote; simp
@[simp] theorem joinNote_resetHeld (n : Note) : (joinNote n s).resetHeld = s.resetHeld := by
  unfold joinNote; simp
@[simp] theorem joinNote_pending (n : Note) : (joinNote n s).pending = s.pending := by
  unfold joinNote; simp
@[simp] theorem joinNote_spine_ownAddress (n : Note) : (joinNote n s).spine.ownAddress = s.spine.ownAddress := by
  unfold joinNote; simp
@[simp] theorem joinNote_spine_strapSample (n : Note) : (joinNote n s).spine.strapSample = s.spine.strapSample := by
  unfold joinNote; simp
@[simp] theorem joinNote_spine_input (n : Note) : (joinNote n s).spine.input = s.spine.input := by
  unfold joinNote; simp
@[simp] theorem joinNote_spine_transit (n : Note) : (joinNote n s).spine.transit = s.spine.transit := by
  unfold joinNote; simp
@[simp] theorem joinNote_spine_frames (n : Note) : (joinNote n s).spine.frames = s.spine.frames := by
  unfold joinNote; simp
@[simp] theorem joinNote_spine_hold (n : Note) : (joinNote n s).spine.hold = s.spine.hold := by
  unfold joinNote; simp
@[simp] theorem joinNote_spine_lastSent (n : Note) : (joinNote n s).spine.lastSent = s.spine.lastSent := by
  unfold joinNote; simp
@[simp] theorem joinFrame_intake (f : Frame) : (joinFrame f s).intake = s.intake := by
  unfold joinFrame; simp
@[simp] theorem joinFrame_memory (f : Frame) : (joinFrame f s).memory = s.memory := by
  unfold joinFrame; simp
@[simp] theorem joinFrame_gaps (f : Frame) : (joinFrame f s).gaps = s.gaps := by
  unfold joinFrame; simp
@[simp] theorem joinFrame_markers (f : Frame) : (joinFrame f s).markers = s.markers := by
  unfold joinFrame; simp
@[simp] theorem joinFrame_table (f : Frame) : (joinFrame f s).table = s.table := by
  unfold joinFrame; simp
@[simp] theorem joinFrame_assembler (f : Frame) : (joinFrame f s).assembler = s.assembler := by
  unfold joinFrame; simp
@[simp] theorem joinFrame_presence (f : Frame) : (joinFrame f s).presence = s.presence := by
  unfold joinFrame; simp
@[simp] theorem joinFrame_station (f : Frame) : (joinFrame f s).station = s.station := by
  unfold joinFrame; simp
@[simp] theorem joinFrame_port (f : Frame) : (joinFrame f s).port = s.port := by
  unfold joinFrame; simp
@[simp] theorem joinFrame_faults (f : Frame) : (joinFrame f s).faults = s.faults := by
  unfold joinFrame; simp
@[simp] theorem joinFrame_counters (f : Frame) : (joinFrame f s).counters = s.counters := by
  unfold joinFrame; simp
@[simp] theorem joinFrame_resetHeld (f : Frame) : (joinFrame f s).resetHeld = s.resetHeld := by
  unfold joinFrame; simp
@[simp] theorem joinFrame_pending (f : Frame) : (joinFrame f s).pending = s.pending := by
  unfold joinFrame; simp
@[simp] theorem joinFrame_spine_ownAddress (f : Frame) : (joinFrame f s).spine.ownAddress = s.spine.ownAddress := by
  unfold joinFrame; simp
@[simp] theorem joinFrame_spine_strapSample (f : Frame) : (joinFrame f s).spine.strapSample = s.spine.strapSample := by
  unfold joinFrame; simp
@[simp] theorem joinFrame_spine_input (f : Frame) : (joinFrame f s).spine.input = s.spine.input := by
  unfold joinFrame; simp
@[simp] theorem joinFrame_spine_transit (f : Frame) : (joinFrame f s).spine.transit = s.spine.transit := by
  unfold joinFrame; simp
@[simp] theorem joinFrame_spine_hold (f : Frame) : (joinFrame f s).spine.hold = s.spine.hold := by
  unfold joinFrame; simp
@[simp] theorem joinFrame_spine_lastSent (f : Frame) : (joinFrame f s).spine.lastSent = s.spine.lastSent := by
  unfold joinFrame; simp
@[simp] theorem queuePresence_intake (n : Note) : (queuePresence n s).intake = s.intake := by
  unfold queuePresence; split
  · rfl
  · split
    · simp
    · rfl
@[simp] theorem queuePresence_memory (n : Note) : (queuePresence n s).memory = s.memory := by
  unfold queuePresence; split
  · rfl
  · split
    · simp
    · rfl
@[simp] theorem queuePresence_gaps (n : Note) : (queuePresence n s).gaps = s.gaps := by
  unfold queuePresence; split
  · rfl
  · split
    · simp
    · rfl
@[simp] theorem queuePresence_markers (n : Note) : (queuePresence n s).markers = s.markers := by
  unfold queuePresence; split
  · rfl
  · split
    · simp
    · rfl
@[simp] theorem queuePresence_table (n : Note) : (queuePresence n s).table = s.table := by
  unfold queuePresence; split
  · rfl
  · split
    · simp
    · rfl
@[simp] theorem queuePresence_assembler (n : Note) : (queuePresence n s).assembler = s.assembler := by
  unfold queuePresence; split
  · rfl
  · split
    · simp
    · rfl
@[simp] theorem queuePresence_presence (n : Note) : (queuePresence n s).presence = s.presence := by
  unfold queuePresence; split
  · rfl
  · split
    · simp
    · rfl
@[simp] theorem queuePresence_station (n : Note) : (queuePresence n s).station = s.station := by
  unfold queuePresence; split
  · rfl
  · split
    · simp
    · rfl
@[simp] theorem queuePresence_port (n : Note) : (queuePresence n s).port = s.port := by
  unfold queuePresence; split
  · rfl
  · split
    · simp
    · rfl
@[simp] theorem queuePresence_faults (n : Note) : (queuePresence n s).faults = s.faults := by
  unfold queuePresence; split
  · rfl
  · split
    · simp
    · rfl
@[simp] theorem queuePresence_counters (n : Note) : (queuePresence n s).counters = s.counters := by
  unfold queuePresence; split
  · rfl
  · split
    · simp
    · rfl
@[simp] theorem queuePresence_resetHeld (n : Note) : (queuePresence n s).resetHeld = s.resetHeld := by
  unfold queuePresence; split
  · rfl
  · split
    · simp
    · rfl
@[simp] theorem queuePresence_pending (n : Note) : (queuePresence n s).pending = s.pending := by
  unfold queuePresence; split
  · rfl
  · split
    · simp
    · rfl
@[simp] theorem queuePresence_spine_ownAddress (n : Note) : (queuePresence n s).spine.ownAddress = s.spine.ownAddress := by
  unfold queuePresence; split
  · rfl
  · split
    · simp
    · rfl
@[simp] theorem queuePresence_spine_strapSample (n : Note) : (queuePresence n s).spine.strapSample = s.spine.strapSample := by
  unfold queuePresence; split
  · rfl
  · split
    · simp
    · rfl
@[simp] theorem queuePresence_spine_input (n : Note) : (queuePresence n s).spine.input = s.spine.input := by
  unfold queuePresence; split
  · rfl
  · split
    · simp
    · rfl
@[simp] theorem queuePresence_spine_transit (n : Note) : (queuePresence n s).spine.transit = s.spine.transit := by
  unfold queuePresence; split
  · rfl
  · split
    · simp
    · rfl
@[simp] theorem queuePresence_spine_frames (n : Note) : (queuePresence n s).spine.frames = s.spine.frames := by
  unfold queuePresence; split
  · rfl
  · split
    · simp
    · rfl
@[simp] theorem queuePresence_spine_hold (n : Note) : (queuePresence n s).spine.hold = s.spine.hold := by
  unfold queuePresence; split
  · rfl
  · split
    · simp
    · rfl
@[simp] theorem queuePresence_spine_lastSent (n : Note) : (queuePresence n s).spine.lastSent = s.spine.lastSent := by
  unfold queuePresence; split
  · rfl
  · split
    · simp
    · rfl

@[simp] theorem joinFrame_frames (f : Frame) : (joinFrame f s).spine.frames = s.spine.frames ++ [f] := by
  unfold joinFrame; simp

/-- An arbiter choice takes at most the oldest note. -/
theorem arbitrate_notes : (arbitrate s).spine.notes = s.spine.notes ∨ (arbitrate s).spine.notes = s.spine.notes.tail := by
  unfold arbitrate chooseOutput
  split
  · split
    · exact .inl rfl
    · split
      · next e => exact .inr (by simp [e])
      · split
        · exact .inl rfl
        · split <;> exact .inl rfl
  · exact .inl rfl

/-- On a port that is not FREE no choice is made (R126). -/
theorem arbitrate_busy (h : s.spine.port ≠ .free) : arbitrate s = s := by
  unfold arbitrate; rw [if_neg h]

/-- A choice with nothing to send leaves the port FREE (R126). -/
theorem chooseOutput_nothing (ht : s.spine.transit = []) (hn : s.notesEligible = false ∨ s.spine.notes = [])
    (hf : s.spine.hold.isEmpty = false ∨ s.spine.frames = []) : chooseOutput s = s := by
  unfold chooseOutput
  rcases hn with hn | hn <;> rcases hf with hf | hf <;> simp [ht, hn, hf]

/-- What a note's end leaves: the note sealed is the unit last sent, and a choice is made (R126, R129). -/
theorem endNote_inserting (n : Note) (h : s.spine.port = .insertingNote n) :
    endNote s = outputFreed (noteSentUnit s) ∧ s.outputUnit = some (sealUnit (noteHeader n) []) := by
  constructor
  · unfold endNote; rw [h]
  · unfold State.outputUnit; rw [h]

/-- What a forwarding's end leaves: the unit forwarded is the unit last sent, and a choice is made (R126, R132). -/
theorem endForwarding_ended (u : TransitUnit) (rest : List TransitUnit) (h : s.spine.port = .forwarding)
    (ht : s.spine.transit = u :: rest) (hu : u.length ≤ u.received) :
    endForwarding s = outputFreed { noteSentUnit s with spine := { (noteSentUnit s).spine with transit := rest } } ∧
      s.outputUnit = some (forwardedUnit u) := by
  constructor
  · unfold endForwarding; rw [h, ht]; exact if_pos hu
  · unfold State.outputUnit; rw [h, ht]

end Sys2Proof.Machine
end

