-- ==== Sys2Proof/Laws/Port.lean ====
section
/-! SUPPORT. The DRAM port: what the arbiter's grant reaches and what it grants (R27, R30). -/

namespace Sys2Proof.Machine

variable (s : State)

@[simp] theorem grantPort_intake : (grantPort s).intake = s.intake := by
  unfold grantPort; split; · split <;> rfl
  · rfl
@[simp] theorem grantPort_gaps : (grantPort s).gaps = s.gaps := by
  unfold grantPort; split; · split <;> rfl
  · rfl
@[simp] theorem grantPort_markers : (grantPort s).markers = s.markers := by
  unfold grantPort; split; · split <;> rfl
  · rfl
@[simp] theorem grantPort_table : (grantPort s).table = s.table := by
  unfold grantPort; split; · split <;> rfl
  · rfl
@[simp] theorem grantPort_assembler : (grantPort s).assembler = s.assembler := by
  unfold grantPort; split; · split <;> rfl
  · rfl
@[simp] theorem grantPort_spine : (grantPort s).spine = s.spine := by
  unfold grantPort; split; · split <;> rfl
  · rfl
@[simp] theorem grantPort_presence : (grantPort s).presence = s.presence := by
  unfold grantPort; split; · split <;> rfl
  · rfl
@[simp] theorem grantPort_station : (grantPort s).station = s.station := by
  unfold grantPort; split; · split <;> rfl
  · rfl
@[simp] theorem grantPort_port : (grantPort s).port = s.port := by
  unfold grantPort; split; · split <;> rfl
  · rfl
@[simp] theorem grantPort_resetHeld : (grantPort s).resetHeld = s.resetHeld := by
  unfold grantPort; split; · split <;> rfl
  · rfl
@[simp] theorem grantPort_pending : (grantPort s).pending = s.pending := by
  unfold grantPort; split; · split <;> rfl
  · rfl
@[simp] theorem grantPort_memory_dram : (grantPort s).memory.dram = s.memory.dram := by
  unfold grantPort; split; · split <;> rfl
  · rfl
@[simp] theorem grantPort_memory_writeSlot : (grantPort s).memory.writeSlot = s.memory.writeSlot := by
  unfold grantPort; split; · split <;> rfl
  · rfl
@[simp] theorem grantPort_memory_drainSlot : (grantPort s).memory.drainSlot = s.memory.drainSlot := by
  unfold grantPort; split; · split <;> rfl
  · rfl
@[simp] theorem grantPort_memory_storedCount : (grantPort s).memory.storedCount = s.memory.storedCount := by
  unfold grantPort; split; · split <;> rfl
  · rfl
@[simp] theorem grantPort_memory_staging : (grantPort s).memory.staging = s.memory.staging := by
  unfold grantPort; split; · split <;> rfl
  · rfl
@[simp] theorem grantPort_memory_owed : (grantPort s).memory.owed = s.memory.owed := by
  unfold grantPort; split; · split <;> rfl
  · rfl
@[simp] theorem grantPort_memory_refreshTimer : (grantPort s).memory.refreshTimer = s.memory.refreshTimer := by
  unfold grantPort; split; · split <;> rfl
  · rfl
@[simp] theorem grantPort_memory_thermal : (grantPort s).memory.thermal = s.memory.thermal := by
  unfold grantPort; split; · split <;> rfl
  · rfl
@[simp] theorem grantPort_memory_selfRefresh : (grantPort s).memory.selfRefresh = s.memory.selfRefresh := by
  unfold grantPort; split; · split <;> rfl
  · rfl
@[simp] theorem grantPort_memory_readRequest : (grantPort s).memory.readRequest = s.memory.readRequest := by
  unfold grantPort; split; · split <;> rfl
  · rfl
@[simp] theorem grantPort_faults_mode : (grantPort s).faults.mode = s.faults.mode := by
  unfold grantPort; split; · split <;> rfl
  · rfl
@[simp] theorem grantPort_faults_alertMask : (grantPort s).faults.alertMask = s.faults.alertMask := by
  unfold grantPort; split; · split <;> rfl
  · rfl
@[simp] theorem grantPort_counters_staged : (grantPort s).counters.staged = s.counters.staged := by
  unfold grantPort; split; · split <;> rfl
  · rfl
@[simp] theorem grantPort_counters_gapSamples : (grantPort s).counters.gapSamples = s.counters.gapSamples := by
  unfold grantPort; split; · split <;> rfl
  · rfl
@[simp] theorem grantPort_counters_lateRefresh : (grantPort s).counters.lateRefresh = s.counters.lateRefresh := by
  unfold grantPort; split; · split <;> rfl
  · rfl
@[simp] theorem grantPort_counters_corrected : (grantPort s).counters.corrected = s.counters.corrected := by
  unfold grantPort; split; · split <;> rfl
  · rfl
@[simp] theorem grantPort_counters_uncorrectable : (grantPort s).counters.uncorrectable = s.counters.uncorrectable := by
  unfold grantPort; split; · split <;> rfl
  · rfl
@[simp] theorem grantPort_counters_suppressed : (grantPort s).counters.suppressed = s.counters.suppressed := by
  unfold grantPort; split; · split <;> rfl
  · rfl
@[simp] theorem grantPort_counters_overflow : (grantPort s).counters.overflow = s.counters.overflow := by
  unfold grantPort; split; · split <;> rfl
  · rfl
@[simp] theorem grantPort_counters_checkError : (grantPort s).counters.checkError = s.counters.checkError := by
  unfold grantPort; split; · split <;> rfl
  · rfl
@[simp] theorem grantPort_counters_orphan : (grantPort s).counters.orphan = s.counters.orphan := by
  unfold grantPort; split; · split <;> rfl
  · rfl
@[simp] theorem grantPort_counters_unclaimed : (grantPort s).counters.unclaimed = s.counters.unclaimed := by
  unfold grantPort; split; · split <;> rfl
  · rfl
@[simp] theorem grantPort_counters_absorbed : (grantPort s).counters.absorbed = s.counters.absorbed := by
  unfold grantPort; split; · split <;> rfl
  · rfl
@[simp] theorem grantPort_counters_clamped : (grantPort s).counters.clamped = s.counters.clamped := by
  unfold grantPort; split; · split <;> rfl
  · rfl

/-- A grant is made only on a free port out of self-refresh. -/
theorem grantPort_busy (h : ¬(s.memory.selfRefresh = false ∧ s.memory.op = none)) : grantPort s = s := by
  unfold grantPort; rw [if_neg h]

/-- On a free port the operation granted is the arbiter's choice (R27). -/
theorem grantPort_op (h : s.memory.selfRefresh = false ∧ s.memory.op = none) :
    (grantPort s).memory.op = (portChoice s.memory).map fun o => { op := o } := by
  unfold grantPort; rw [if_pos h]
  split
  · next e => simp [e, h.2]
  · next e => simp [e]
  · next e => simp [e]

/-- Only the grant of a forced refresh sets a flag (R30). -/
theorem grantPort_flags (h : portChoice s.memory ≠ some (.refresh .forced)) :
    (grantPort s).faults = s.faults ∧ (grantPort s).counters = s.counters := by
  unfold grantPort; split
  · split
    · exact ⟨rfl, rfl⟩
    · next e => exact absurd e h
    · exact ⟨rfl, rfl⟩
  · exact ⟨rfl, rfl⟩

/-- Every operation the arbiter chooses as a refresh finds owed above -8 (R27). -/
theorem portChoice_refresh (m : CaptureMemory) (form : RefreshForm) (h : portChoice m = some (.refresh form)) :
    -8 < m.owed := by
  unfold portChoice at h
  split at h; · omega
  split at h; · simp at h
  split at h; · simp at h
  split at h; · omega
  split at h; · assumption
  simp at h

@[simp] theorem portFreed_intake : (portFreed s).intake = s.intake := by
  unfold portFreed; split <;> simp
@[simp] theorem portFreed_gaps : (portFreed s).gaps = s.gaps := by
  unfold portFreed; split <;> simp
@[simp] theorem portFreed_markers : (portFreed s).markers = s.markers := by
  unfold portFreed; split <;> simp
@[simp] theorem portFreed_table : (portFreed s).table = s.table := by
  unfold portFreed; split <;> simp
@[simp] theorem portFreed_assembler : (portFreed s).assembler = s.assembler := by
  unfold portFreed; split <;> simp
@[simp] theorem portFreed_spine : (portFreed s).spine = s.spine := by
  unfold portFreed; split <;> simp
@[simp] theorem portFreed_presence : (portFreed s).presence = s.presence := by
  unfold portFreed; split <;> simp
@[simp] theorem portFreed_station : (portFreed s).station = s.station := by
  unfold portFreed; split <;> simp
@[simp] theorem portFreed_port : (portFreed s).port = s.port := by
  unfold portFreed; split <;> simp
@[simp] theorem portFreed_resetHeld : (portFreed s).resetHeld = s.resetHeld := by
  unfold portFreed; split <;> simp
@[simp] theorem portFreed_pending : (portFreed s).pending = s.pending := by
  unfold portFreed; split <;> simp
@[simp] theorem portFreed_memory_dram : (portFreed s).memory.dram = s.memory.dram := by
  unfold portFreed; split <;> simp
@[simp] theorem portFreed_memory_writeSlot : (portFreed s).memory.writeSlot = s.memory.writeSlot := by
  unfold portFreed; split <;> simp
@[simp] theorem portFreed_memory_drainSlot : (portFreed s).memory.drainSlot = s.memory.drainSlot := by
  unfold portFreed; split <;> simp
@[simp] theorem portFreed_memory_storedCount : (portFreed s).memory.storedCount = s.memory.storedCount := by
  unfold portFreed; split <;> simp
@[simp] theorem portFreed_memory_staging : (portFreed s).memory.staging = s.memory.staging := by
  unfold portFreed; split <;> simp
@[simp] theorem portFreed_memory_owed : (portFreed s).memory.owed = s.memory.owed := by
  unfold portFreed; split <;> simp
@[simp] theorem portFreed_memory_refreshTimer : (portFreed s).memory.refreshTimer = s.memory.refreshTimer := by
  unfold portFreed; split <;> simp
@[simp] theorem portFreed_memory_thermal : (portFreed s).memory.thermal = s.memory.thermal := by
  unfold portFreed; split <;> simp
@[simp] theorem portFreed_memory_readRequest : (portFreed s).memory.readRequest = s.memory.readRequest := by
  unfold portFreed; split <;> simp
@[simp] theorem portFreed_faults_mode : (portFreed s).faults.mode = s.faults.mode := by
  unfold portFreed; split <;> simp
@[simp] theorem portFreed_faults_alertMask : (portFreed s).faults.alertMask = s.faults.alertMask := by
  unfold portFreed; split <;> simp
@[simp] theorem portFreed_counters_staged : (portFreed s).counters.staged = s.counters.staged := by
  unfold portFreed; split <;> simp
@[simp] theorem portFreed_counters_gapSamples : (portFreed s).counters.gapSamples = s.counters.gapSamples := by
  unfold portFreed; split <;> simp
@[simp] theorem portFreed_counters_lateRefresh : (portFreed s).counters.lateRefresh = s.counters.lateRefresh := by
  unfold portFreed; split <;> simp
@[simp] theorem portFreed_counters_corrected : (portFreed s).counters.corrected = s.counters.corrected := by
  unfold portFreed; split <;> simp
@[simp] theorem portFreed_counters_uncorrectable : (portFreed s).counters.uncorrectable = s.counters.uncorrectable := by
  unfold portFreed; split <;> simp
@[simp] theorem portFreed_counters_suppressed : (portFreed s).counters.suppressed = s.counters.suppressed := by
  unfold portFreed; split <;> simp
@[simp] theorem portFreed_counters_overflow : (portFreed s).counters.overflow = s.counters.overflow := by
  unfold portFreed; split <;> simp
@[simp] theorem portFreed_counters_checkError : (portFreed s).counters.checkError = s.counters.checkError := by
  unfold portFreed; split <;> simp
@[simp] theorem portFreed_counters_orphan : (portFreed s).counters.orphan = s.counters.orphan := by
  unfold portFreed; split <;> simp
@[simp] theorem portFreed_counters_unclaimed : (portFreed s).counters.unclaimed = s.counters.unclaimed := by
  unfold portFreed; split <;> simp
@[simp] theorem portFreed_counters_absorbed : (portFreed s).counters.absorbed = s.counters.absorbed := by
  unfold portFreed; split <;> simp
@[simp] theorem portFreed_counters_clamped : (portFreed s).counters.clamped = s.counters.clamped := by
  unfold portFreed; split <;> simp

end Sys2Proof.Machine
end

