-- ==== Sys2Proof/Laws/Table.lean ====
section
/-! SUPPORT. The Boundary Queue and the Segment Table: what a consideration reaches (R68 to R74). -/

namespace Sys2Proof.Machine

variable (s : State)

@[simp] theorem absorbRequest_intake (coincident : Bool) : (absorbRequest coincident s).intake = s.intake := by
  unfold absorbRequest; cases coincident <;> rfl
@[simp] theorem absorbRequest_memory (coincident : Bool) : (absorbRequest coincident s).memory = s.memory := by
  unfold absorbRequest; cases coincident <;> rfl
@[simp] theorem absorbRequest_gaps (coincident : Bool) : (absorbRequest coincident s).gaps = s.gaps := by
  unfold absorbRequest; cases coincident <;> rfl
@[simp] theorem absorbRequest_markers (coincident : Bool) : (absorbRequest coincident s).markers = s.markers := by
  unfold absorbRequest; cases coincident <;> rfl
@[simp] theorem absorbRequest_assembler (coincident : Bool) : (absorbRequest coincident s).assembler = s.assembler := by
  unfold absorbRequest; cases coincident <;> rfl
@[simp] theorem absorbRequest_spine (coincident : Bool) : (absorbRequest coincident s).spine = s.spine := by
  unfold absorbRequest; cases coincident <;> rfl
@[simp] theorem absorbRequest_presence (coincident : Bool) : (absorbRequest coincident s).presence = s.presence := by
  unfold absorbRequest; cases coincident <;> rfl
@[simp] theorem absorbRequest_station (coincident : Bool) : (absorbRequest coincident s).station = s.station := by
  unfold absorbRequest; cases coincident <;> rfl
@[simp] theorem absorbRequest_port (coincident : Bool) : (absorbRequest coincident s).port = s.port := by
  unfold absorbRequest; cases coincident <;> rfl
@[simp] theorem absorbRequest_resetHeld (coincident : Bool) : (absorbRequest coincident s).resetHeld = s.resetHeld := by
  unfold absorbRequest; cases coincident <;> rfl
@[simp] theorem absorbRequest_pending (coincident : Bool) : (absorbRequest coincident s).pending = s.pending := by
  unfold absorbRequest; cases coincident <;> rfl
@[simp] theorem absorbRequest_faults_mode (coincident : Bool) : (absorbRequest coincident s).faults.mode = s.faults.mode := by
  unfold absorbRequest; cases coincident <;> rfl
@[simp] theorem absorbRequest_faults_alertMask (coincident : Bool) : (absorbRequest coincident s).faults.alertMask = s.faults.alertMask := by
  unfold absorbRequest; cases coincident <;> rfl
@[simp] theorem absorbRequest_counters_staged (coincident : Bool) : (absorbRequest coincident s).counters.staged = s.counters.staged := by
  unfold absorbRequest; cases coincident <;> rfl
@[simp] theorem absorbRequest_counters_gapSamples (coincident : Bool) : (absorbRequest coincident s).counters.gapSamples = s.counters.gapSamples := by
  unfold absorbRequest; cases coincident <;> rfl
@[simp] theorem absorbRequest_counters_lateRefresh (coincident : Bool) : (absorbRequest coincident s).counters.lateRefresh = s.counters.lateRefresh := by
  unfold absorbRequest; cases coincident <;> rfl
@[simp] theorem absorbRequest_counters_corrected (coincident : Bool) : (absorbRequest coincident s).counters.corrected = s.counters.corrected := by
  unfold absorbRequest; cases coincident <;> rfl
@[simp] theorem absorbRequest_counters_uncorrectable (coincident : Bool) : (absorbRequest coincident s).counters.uncorrectable = s.counters.uncorrectable := by
  unfold absorbRequest; cases coincident <;> rfl
@[simp] theorem absorbRequest_counters_suppressed (coincident : Bool) : (absorbRequest coincident s).counters.suppressed = s.counters.suppressed := by
  unfold absorbRequest; cases coincident <;> rfl
@[simp] theorem absorbRequest_counters_overflow (coincident : Bool) : (absorbRequest coincident s).counters.overflow = s.counters.overflow := by
  unfold absorbRequest; cases coincident <;> rfl
@[simp] theorem absorbRequest_counters_checkError (coincident : Bool) : (absorbRequest coincident s).counters.checkError = s.counters.checkError := by
  unfold absorbRequest; cases coincident <;> rfl
@[simp] theorem absorbRequest_counters_orphan (coincident : Bool) : (absorbRequest coincident s).counters.orphan = s.counters.orphan := by
  unfold absorbRequest; cases coincident <;> rfl
@[simp] theorem absorbRequest_counters_unclaimed (coincident : Bool) : (absorbRequest coincident s).counters.unclaimed = s.counters.unclaimed := by
  unfold absorbRequest; cases coincident <;> rfl
@[simp] theorem absorbRequest_counters_forcedRefresh (coincident : Bool) : (absorbRequest coincident s).counters.forcedRefresh = s.counters.forcedRefresh := by
  unfold absorbRequest; cases coincident <;> rfl
@[simp] theorem absorbRequest_counters_clamped (coincident : Bool) : (absorbRequest coincident s).counters.clamped = s.counters.clamped := by
  unfold absorbRequest; cases coincident <;> rfl
@[simp] theorem absorbRequest_table_queue (coincident : Bool) : (absorbRequest coincident s).table.queue = s.table.queue := by
  unfold absorbRequest; cases coincident <;> rfl
@[simp] theorem absorbRequest_table_head (coincident : Bool) : (absorbRequest coincident s).table.head = s.table.head := by
  unfold absorbRequest; cases coincident <;> rfl
@[simp] theorem applyRequest_intake (r : Request) (start : Nat) : (applyRequest r start s).intake = s.intake := by
  unfold applyRequest; simp only []; split <;> rfl
@[simp] theorem applyRequest_memory (r : Request) (start : Nat) : (applyRequest r start s).memory = s.memory := by
  unfold applyRequest; simp only []; split <;> rfl
@[simp] theorem applyRequest_gaps (r : Request) (start : Nat) : (applyRequest r start s).gaps = s.gaps := by
  unfold applyRequest; simp only []; split <;> rfl
@[simp] theorem applyRequest_markers (r : Request) (start : Nat) : (applyRequest r start s).markers = s.markers := by
  unfold applyRequest; simp only []; split <;> rfl
@[simp] theorem applyRequest_assembler (r : Request) (start : Nat) : (applyRequest r start s).assembler = s.assembler := by
  unfold applyRequest; simp only []; split <;> rfl
@[simp] theorem applyRequest_spine (r : Request) (start : Nat) : (applyRequest r start s).spine = s.spine := by
  unfold applyRequest; simp only []; split <;> rfl
@[simp] theorem applyRequest_presence (r : Request) (start : Nat) : (applyRequest r start s).presence = s.presence := by
  unfold applyRequest; simp only []; split <;> rfl
@[simp] theorem applyRequest_station (r : Request) (start : Nat) : (applyRequest r start s).station = s.station := by
  unfold applyRequest; simp only []; split <;> rfl
@[simp] theorem applyRequest_port (r : Request) (start : Nat) : (applyRequest r start s).port = s.port := by
  unfold applyRequest; simp only []; split <;> rfl
@[simp] theorem applyRequest_resetHeld (r : Request) (start : Nat) : (applyRequest r start s).resetHeld = s.resetHeld := by
  unfold applyRequest; simp only []; split <;> rfl
@[simp] theorem applyRequest_pending (r : Request) (start : Nat) : (applyRequest r start s).pending = s.pending := by
  unfold applyRequest; simp only []; split <;> rfl
@[simp] theorem applyRequest_faults_mode (r : Request) (start : Nat) : (applyRequest r start s).faults.mode = s.faults.mode := by
  unfold applyRequest; simp only []; split <;> rfl
@[simp] theorem applyRequest_faults_alertMask (r : Request) (start : Nat) : (applyRequest r start s).faults.alertMask = s.faults.alertMask := by
  unfold applyRequest; simp only []; split <;> rfl
@[simp] theorem applyRequest_counters_staged (r : Request) (start : Nat) : (applyRequest r start s).counters.staged = s.counters.staged := by
  unfold applyRequest; simp only []; split <;> rfl
@[simp] theorem applyRequest_counters_gapSamples (r : Request) (start : Nat) : (applyRequest r start s).counters.gapSamples = s.counters.gapSamples := by
  unfold applyRequest; simp only []; split <;> rfl
@[simp] theorem applyRequest_counters_lateRefresh (r : Request) (start : Nat) : (applyRequest r start s).counters.lateRefresh = s.counters.lateRefresh := by
  unfold applyRequest; simp only []; split <;> rfl
@[simp] theorem applyRequest_counters_corrected (r : Request) (start : Nat) : (applyRequest r start s).counters.corrected = s.counters.corrected := by
  unfold applyRequest; simp only []; split <;> rfl
@[simp] theorem applyRequest_counters_uncorrectable (r : Request) (start : Nat) : (applyRequest r start s).counters.uncorrectable = s.counters.uncorrectable := by
  unfold applyRequest; simp only []; split <;> rfl
@[simp] theorem applyRequest_counters_suppressed (r : Request) (start : Nat) : (applyRequest r start s).counters.suppressed = s.counters.suppressed := by
  unfold applyRequest; simp only []; split <;> rfl
@[simp] theorem applyRequest_counters_overflow (r : Request) (start : Nat) : (applyRequest r start s).counters.overflow = s.counters.overflow := by
  unfold applyRequest; simp only []; split <;> rfl
@[simp] theorem applyRequest_counters_checkError (r : Request) (start : Nat) : (applyRequest r start s).counters.checkError = s.counters.checkError := by
  unfold applyRequest; simp only []; split <;> rfl
@[simp] theorem applyRequest_counters_orphan (r : Request) (start : Nat) : (applyRequest r start s).counters.orphan = s.counters.orphan := by
  unfold applyRequest; simp only []; split <;> rfl
@[simp] theorem applyRequest_counters_unclaimed (r : Request) (start : Nat) : (applyRequest r start s).counters.unclaimed = s.counters.unclaimed := by
  unfold applyRequest; simp only []; split <;> rfl
@[simp] theorem applyRequest_counters_forcedRefresh (r : Request) (start : Nat) : (applyRequest r start s).counters.forcedRefresh = s.counters.forcedRefresh := by
  unfold applyRequest; simp only []; split <;> rfl
@[simp] theorem applyRequest_counters_absorbed (r : Request) (start : Nat) : (applyRequest r start s).counters.absorbed = s.counters.absorbed := by
  unfold applyRequest; simp only []; split <;> rfl
@[simp] theorem applyRequest_table_queue (r : Request) (start : Nat) : (applyRequest r start s).table.queue = s.table.queue := by
  unfold applyRequest; simp only []; split <;> rfl
@[simp] theorem applyRequest_table_head (r : Request) (start : Nat) : (applyRequest r start s).table.head = s.table.head := by
  unfold applyRequest; simp only []; split <;> rfl
@[simp] theorem considerRequests_intake (q : List Request) : (considerRequests q s).intake = s.intake := by
  induction q generalizing s with
  | nil => rfl
  | cons r rest ih => unfold considerRequests; split <;> simp [ih]
@[simp] theorem considerRequests_memory (q : List Request) : (considerRequests q s).memory = s.memory := by
  induction q generalizing s with
  | nil => rfl
  | cons r rest ih => unfold considerRequests; split <;> simp [ih]
@[simp] theorem considerRequests_gaps (q : List Request) : (considerRequests q s).gaps = s.gaps := by
  induction q generalizing s with
  | nil => rfl
  | cons r rest ih => unfold considerRequests; split <;> simp [ih]
@[simp] theorem considerRequests_markers (q : List Request) : (considerRequests q s).markers = s.markers := by
  induction q generalizing s with
  | nil => rfl
  | cons r rest ih => unfold considerRequests; split <;> simp [ih]
@[simp] theorem considerRequests_assembler (q : List Request) : (considerRequests q s).assembler = s.assembler := by
  induction q generalizing s with
  | nil => rfl
  | cons r rest ih => unfold considerRequests; split <;> simp [ih]
@[simp] theorem considerRequests_spine (q : List Request) : (considerRequests q s).spine = s.spine := by
  induction q generalizing s with
  | nil => rfl
  | cons r rest ih => unfold considerRequests; split <;> simp [ih]
@[simp] theorem considerRequests_presence (q : List Request) : (considerRequests q s).presence = s.presence := by
  induction q generalizing s with
  | nil => rfl
  | cons r rest ih => unfold considerRequests; split <;> simp [ih]
@[simp] theorem considerRequests_station (q : List Request) : (considerRequests q s).station = s.station := by
  induction q generalizing s with
  | nil => rfl
  | cons r rest ih => unfold considerRequests; split <;> simp [ih]
@[simp] theorem considerRequests_port (q : List Request) : (considerRequests q s).port = s.port := by
  induction q generalizing s with
  | nil => rfl
  | cons r rest ih => unfold considerRequests; split <;> simp [ih]
@[simp] theorem considerRequests_resetHeld (q : List Request) : (considerRequests q s).resetHeld = s.resetHeld := by
  induction q generalizing s with
  | nil => rfl
  | cons r rest ih => unfold considerRequests; split <;> simp [ih]
@[simp] theorem considerRequests_pending (q : List Request) : (considerRequests q s).pending = s.pending := by
  induction q generalizing s with
  | nil => rfl
  | cons r rest ih => unfold considerRequests; split <;> simp [ih]
@[simp] theorem considerRequests_faults_mode (q : List Request) : (considerRequests q s).faults.mode = s.faults.mode := by
  induction q generalizing s with
  | nil => rfl
  | cons r rest ih => unfold considerRequests; split <;> simp [ih]
@[simp] theorem considerRequests_faults_alertMask (q : List Request) : (considerRequests q s).faults.alertMask = s.faults.alertMask := by
  induction q generalizing s with
  | nil => rfl
  | cons r rest ih => unfold considerRequests; split <;> simp [ih]
@[simp] theorem considerRequests_counters_staged (q : List Request) : (considerRequests q s).counters.staged = s.counters.staged := by
  induction q generalizing s with
  | nil => rfl
  | cons r rest ih => unfold considerRequests; split <;> simp [ih]
@[simp] theorem considerRequests_counters_gapSamples (q : List Request) : (considerRequests q s).counters.gapSamples = s.counters.gapSamples := by
  induction q generalizing s with
  | nil => rfl
  | cons r rest ih => unfold considerRequests; split <;> simp [ih]
@[simp] theorem considerRequests_counters_lateRefresh (q : List Request) : (considerRequests q s).counters.lateRefresh = s.counters.lateRefresh := by
  induction q generalizing s with
  | nil => rfl
  | cons r rest ih => unfold considerRequests; split <;> simp [ih]
@[simp] theorem considerRequests_counters_corrected (q : List Request) : (considerRequests q s).counters.corrected = s.counters.corrected := by
  induction q generalizing s with
  | nil => rfl
  | cons r rest ih => unfold considerRequests; split <;> simp [ih]
@[simp] theorem considerRequests_counters_uncorrectable (q : List Request) : (considerRequests q s).counters.uncorrectable = s.counters.uncorrectable := by
  induction q generalizing s with
  | nil => rfl
  | cons r rest ih => unfold considerRequests; split <;> simp [ih]
@[simp] theorem considerRequests_counters_suppressed (q : List Request) : (considerRequests q s).counters.suppressed = s.counters.suppressed := by
  induction q generalizing s with
  | nil => rfl
  | cons r rest ih => unfold considerRequests; split <;> simp [ih]
@[simp] theorem considerRequests_counters_overflow (q : List Request) : (considerRequests q s).counters.overflow = s.counters.overflow := by
  induction q generalizing s with
  | nil => rfl
  | cons r rest ih => unfold considerRequests; split <;> simp [ih]
@[simp] theorem considerRequests_counters_checkError (q : List Request) : (considerRequests q s).counters.checkError = s.counters.checkError := by
  induction q generalizing s with
  | nil => rfl
  | cons r rest ih => unfold considerRequests; split <;> simp [ih]
@[simp] theorem considerRequests_counters_orphan (q : List Request) : (considerRequests q s).counters.orphan = s.counters.orphan := by
  induction q generalizing s with
  | nil => rfl
  | cons r rest ih => unfold considerRequests; split <;> simp [ih]
@[simp] theorem considerRequests_counters_unclaimed (q : List Request) : (considerRequests q s).counters.unclaimed = s.counters.unclaimed := by
  induction q generalizing s with
  | nil => rfl
  | cons r rest ih => unfold considerRequests; split <;> simp [ih]
@[simp] theorem considerRequests_counters_forcedRefresh (q : List Request) : (considerRequests q s).counters.forcedRefresh = s.counters.forcedRefresh := by
  induction q generalizing s with
  | nil => rfl
  | cons r rest ih => unfold considerRequests; split <;> simp [ih]
@[simp] theorem considerRequests_table_head (q : List Request) : (considerRequests q s).table.head = s.table.head := by
  induction q generalizing s with
  | nil => rfl
  | cons r rest ih => unfold considerRequests; split <;> simp [ih]
@[simp] theorem considerHead_intake : (considerHead s).intake = s.intake := by
  unfold considerHead; simp
@[simp] theorem considerHead_memory : (considerHead s).memory = s.memory := by
  unfold considerHead; simp
@[simp] theorem considerHead_gaps : (considerHead s).gaps = s.gaps := by
  unfold considerHead; simp
@[simp] theorem considerHead_markers : (considerHead s).markers = s.markers := by
  unfold considerHead; simp
@[simp] theorem considerHead_assembler : (considerHead s).assembler = s.assembler := by
  unfold considerHead; simp
@[simp] theorem considerHead_spine : (considerHead s).spine = s.spine := by
  unfold considerHead; simp
@[simp] theorem considerHead_presence : (considerHead s).presence = s.presence := by
  unfold considerHead; simp
@[simp] theorem considerHead_station : (considerHead s).station = s.station := by
  unfold considerHead; simp
@[simp] theorem considerHead_port : (considerHead s).port = s.port := by
  unfold considerHead; simp
@[simp] theorem considerHead_resetHeld : (considerHead s).resetHeld = s.resetHeld := by
  unfold considerHead; simp
@[simp] theorem considerHead_pending : (considerHead s).pending = s.pending := by
  unfold considerHead; simp
@[simp] theorem considerHead_faults_mode : (considerHead s).faults.mode = s.faults.mode := by
  unfold considerHead; simp
@[simp] theorem considerHead_faults_alertMask : (considerHead s).faults.alertMask = s.faults.alertMask := by
  unfold considerHead; simp
@[simp] theorem considerHead_counters_staged : (considerHead s).counters.staged = s.counters.staged := by
  unfold considerHead; simp
@[simp] theorem considerHead_counters_gapSamples : (considerHead s).counters.gapSamples = s.counters.gapSamples := by
  unfold considerHead; simp
@[simp] theorem considerHead_counters_lateRefresh : (considerHead s).counters.lateRefresh = s.counters.lateRefresh := by
  unfold considerHead; simp
@[simp] theorem considerHead_counters_corrected : (considerHead s).counters.corrected = s.counters.corrected := by
  unfold considerHead; simp
@[simp] theorem considerHead_counters_uncorrectable : (considerHead s).counters.uncorrectable = s.counters.uncorrectable := by
  unfold considerHead; simp
@[simp] theorem considerHead_counters_suppressed : (considerHead s).counters.suppressed = s.counters.suppressed := by
  unfold considerHead; simp
@[simp] theorem considerHead_counters_overflow : (considerHead s).counters.overflow = s.counters.overflow := by
  unfold considerHead; simp
@[simp] theorem considerHead_counters_checkError : (considerHead s).counters.checkError = s.counters.checkError := by
  unfold considerHead; simp
@[simp] theorem considerHead_counters_orphan : (considerHead s).counters.orphan = s.counters.orphan := by
  unfold considerHead; simp
@[simp] theorem considerHead_counters_unclaimed : (considerHead s).counters.unclaimed = s.counters.unclaimed := by
  unfold considerHead; simp
@[simp] theorem considerHead_counters_forcedRefresh : (considerHead s).counters.forcedRefresh = s.counters.forcedRefresh := by
  unfold considerHead; simp
@[simp] theorem considerHead_table_head : (considerHead s).table.head = s.table.head := by
  unfold considerHead; simp
@[simp] theorem arriveRequest_intake (r : Request) : (arriveRequest r s).intake = s.intake := by
  unfold arriveRequest; split
  · rfl
  · split
    · simp
    · simp only []; split <;> simp
@[simp] theorem arriveRequest_memory (r : Request) : (arriveRequest r s).memory = s.memory := by
  unfold arriveRequest; split
  · rfl
  · split
    · simp
    · simp only []; split <;> simp
@[simp] theorem arriveRequest_gaps (r : Request) : (arriveRequest r s).gaps = s.gaps := by
  unfold arriveRequest; split
  · rfl
  · split
    · simp
    · simp only []; split <;> simp
@[simp] theorem arriveRequest_markers (r : Request) : (arriveRequest r s).markers = s.markers := by
  unfold arriveRequest; split
  · rfl
  · split
    · simp
    · simp only []; split <;> simp
@[simp] theorem arriveRequest_assembler (r : Request) : (arriveRequest r s).assembler = s.assembler := by
  unfold arriveRequest; split
  · rfl
  · split
    · simp
    · simp only []; split <;> simp
@[simp] theorem arriveRequest_spine (r : Request) : (arriveRequest r s).spine = s.spine := by
  unfold arriveRequest; split
  · rfl
  · split
    · simp
    · simp only []; split <;> simp
@[simp] theorem arriveRequest_presence (r : Request) : (arriveRequest r s).presence = s.presence := by
  unfold arriveRequest; split
  · rfl
  · split
    · simp
    · simp only []; split <;> simp
@[simp] theorem arriveRequest_station (r : Request) : (arriveRequest r s).station = s.station := by
  unfold arriveRequest; split
  · rfl
  · split
    · simp
    · simp only []; split <;> simp
@[simp] theorem arriveRequest_port (r : Request) : (arriveRequest r s).port = s.port := by
  unfold arriveRequest; split
  · rfl
  · split
    · simp
    · simp only []; split <;> simp
@[simp] theorem arriveRequest_resetHeld (r : Request) : (arriveRequest r s).resetHeld = s.resetHeld := by
  unfold arriveRequest; split
  · rfl
  · split
    · simp
    · simp only []; split <;> simp
@[simp] theorem arriveRequest_pending (r : Request) : (arriveRequest r s).pending = s.pending := by
  unfold arriveRequest; split
  · rfl
  · split
    · simp
    · simp only []; split <;> simp
@[simp] theorem arriveRequest_faults_mode (r : Request) : (arriveRequest r s).faults.mode = s.faults.mode := by
  unfold arriveRequest; split
  · rfl
  · split
    · simp
    · simp only []; split <;> simp
@[simp] theorem arriveRequest_faults_alertMask (r : Request) : (arriveRequest r s).faults.alertMask = s.faults.alertMask := by
  unfold arriveRequest; split
  · rfl
  · split
    · simp
    · simp only []; split <;> simp
@[simp] theorem arriveRequest_counters_staged (r : Request) : (arriveRequest r s).counters.staged = s.counters.staged := by
  unfold arriveRequest; split
  · rfl
  · split
    · simp
    · simp only []; split <;> simp
@[simp] theorem arriveRequest_counters_gapSamples (r : Request) : (arriveRequest r s).counters.gapSamples = s.counters.gapSamples := by
  unfold arriveRequest; split
  · rfl
  · split
    · simp
    · simp only []; split <;> simp
@[simp] theorem arriveRequest_counters_lateRefresh (r : Request) : (arriveRequest r s).counters.lateRefresh = s.counters.lateRefresh := by
  unfold arriveRequest; split
  · rfl
  · split
    · simp
    · simp only []; split <;> simp
@[simp] theorem arriveRequest_counters_corrected (r : Request) : (arriveRequest r s).counters.corrected = s.counters.corrected := by
  unfold arriveRequest; split
  · rfl
  · split
    · simp
    · simp only []; split <;> simp
@[simp] theorem arriveRequest_counters_uncorrectable (r : Request) : (arriveRequest r s).counters.uncorrectable = s.counters.uncorrectable := by
  unfold arriveRequest; split
  · rfl
  · split
    · simp
    · simp only []; split <;> simp
@[simp] theorem arriveRequest_counters_suppressed (r : Request) : (arriveRequest r s).counters.suppressed = s.counters.suppressed := by
  unfold arriveRequest; split
  · rfl
  · split
    · simp
    · simp only []; split <;> simp
@[simp] theorem arriveRequest_counters_overflow (r : Request) : (arriveRequest r s).counters.overflow = s.counters.overflow := by
  unfold arriveRequest; split
  · rfl
  · split
    · simp
    · simp only []; split <;> simp
@[simp] theorem arriveRequest_counters_checkError (r : Request) : (arriveRequest r s).counters.checkError = s.counters.checkError := by
  unfold arriveRequest; split
  · rfl
  · split
    · simp
    · simp only []; split <;> simp
@[simp] theorem arriveRequest_counters_orphan (r : Request) : (arriveRequest r s).counters.orphan = s.counters.orphan := by
  unfold arriveRequest; split
  · rfl
  · split
    · simp
    · simp only []; split <;> simp
@[simp] theorem arriveRequest_counters_unclaimed (r : Request) : (arriveRequest r s).counters.unclaimed = s.counters.unclaimed := by
  unfold arriveRequest; split
  · rfl
  · split
    · simp
    · simp only []; split <;> simp
@[simp] theorem arriveRequest_counters_forcedRefresh (r : Request) : (arriveRequest r s).counters.forcedRefresh = s.counters.forcedRefresh := by
  unfold arriveRequest; split
  · rfl
  · split
    · simp
    · simp only []; split <;> simp
@[simp] theorem arriveRequest_table_head (r : Request) : (arriveRequest r s).table.head = s.table.head := by
  unfold arriveRequest; split
  · rfl
  · split
    · simp
    · simp only []; split <;> simp
@[simp] theorem segmentRunEnd_intake : (segmentRunEnd s).intake = s.intake := by
  unfold segmentRunEnd; simp
@[simp] theorem segmentRunEnd_memory : (segmentRunEnd s).memory = s.memory := by
  unfold segmentRunEnd; simp
@[simp] theorem segmentRunEnd_gaps : (segmentRunEnd s).gaps = s.gaps := by
  unfold segmentRunEnd; simp
@[simp] theorem segmentRunEnd_markers : (segmentRunEnd s).markers = s.markers := by
  unfold segmentRunEnd; simp
@[simp] theorem segmentRunEnd_assembler : (segmentRunEnd s).assembler = s.assembler := by
  unfold segmentRunEnd; simp
@[simp] theorem segmentRunEnd_spine : (segmentRunEnd s).spine = s.spine := by
  unfold segmentRunEnd; simp
@[simp] theorem segmentRunEnd_presence : (segmentRunEnd s).presence = s.presence := by
  unfold segmentRunEnd; simp
@[simp] theorem segmentRunEnd_station : (segmentRunEnd s).station = s.station := by
  unfold segmentRunEnd; simp
@[simp] theorem segmentRunEnd_port : (segmentRunEnd s).port = s.port := by
  unfold segmentRunEnd; simp
@[simp] theorem segmentRunEnd_resetHeld : (segmentRunEnd s).resetHeld = s.resetHeld := by
  unfold segmentRunEnd; simp
@[simp] theorem segmentRunEnd_pending : (segmentRunEnd s).pending = s.pending := by
  unfold segmentRunEnd; simp
@[simp] theorem segmentRunEnd_faults_mode : (segmentRunEnd s).faults.mode = s.faults.mode := by
  unfold segmentRunEnd; simp
@[simp] theorem segmentRunEnd_faults_alertMask : (segmentRunEnd s).faults.alertMask = s.faults.alertMask := by
  unfold segmentRunEnd; simp
@[simp] theorem segmentRunEnd_counters_staged : (segmentRunEnd s).counters.staged = s.counters.staged := by
  unfold segmentRunEnd; simp
@[simp] theorem segmentRunEnd_counters_gapSamples : (segmentRunEnd s).counters.gapSamples = s.counters.gapSamples := by
  unfold segmentRunEnd; simp
@[simp] theorem segmentRunEnd_counters_lateRefresh : (segmentRunEnd s).counters.lateRefresh = s.counters.lateRefresh := by
  unfold segmentRunEnd; simp
@[simp] theorem segmentRunEnd_counters_corrected : (segmentRunEnd s).counters.corrected = s.counters.corrected := by
  unfold segmentRunEnd; simp
@[simp] theorem segmentRunEnd_counters_uncorrectable : (segmentRunEnd s).counters.uncorrectable = s.counters.uncorrectable := by
  unfold segmentRunEnd; simp
@[simp] theorem segmentRunEnd_counters_suppressed : (segmentRunEnd s).counters.suppressed = s.counters.suppressed := by
  unfold segmentRunEnd; simp
@[simp] theorem segmentRunEnd_counters_overflow : (segmentRunEnd s).counters.overflow = s.counters.overflow := by
  unfold segmentRunEnd; simp
@[simp] theorem segmentRunEnd_counters_checkError : (segmentRunEnd s).counters.checkError = s.counters.checkError := by
  unfold segmentRunEnd; simp
@[simp] theorem segmentRunEnd_counters_orphan : (segmentRunEnd s).counters.orphan = s.counters.orphan := by
  unfold segmentRunEnd; simp
@[simp] theorem segmentRunEnd_counters_unclaimed : (segmentRunEnd s).counters.unclaimed = s.counters.unclaimed := by
  unfold segmentRunEnd; simp
@[simp] theorem segmentRunEnd_counters_forcedRefresh : (segmentRunEnd s).counters.forcedRefresh = s.counters.forcedRefresh := by
  unfold segmentRunEnd; simp
@[simp] theorem segmentRunEnd_table_head : (segmentRunEnd s).table.head = s.table.head := by
  unfold segmentRunEnd; simp

/-- With no request queued a consideration changes nothing. -/
theorem considerHead_empty (h : s.table.queue = []) : considerHead s = s := by
  unfold considerHead; rw [h]; unfold considerRequests
  cases s with | mk _ _ _ _ t => cases t; simp_all

/-- A consideration of a request that waits changes nothing (R72). -/
theorem considerHead_waits (r : Request) (rest : List Request) (h : s.table.queue = r :: rest)
    (hw : judgeRequest s r = .waiting) : considerHead s = s := by
  unfold considerHead; rw [h]; unfold considerRequests; rw [hw]
  cases s with | mk _ _ _ _ t => cases t; simp_all

/-- A consideration leaves no more requests than it found. -/
theorem considerRequests_queue (q : List Request) : (considerRequests q s).table.queue.length ≤ q.length := by
  induction q generalizing s with
  | nil => simp [considerRequests]
  | cons r rest ih =>
    unfold considerRequests
    split
    · simp
    · exact Nat.le_succ_of_le (ih _)
    · exact Nat.le_succ_of_le (ih _)

/-- The requests considered are those given: the queue that stands meanwhile plays no part (R71). -/
theorem considerRequests_ignores (q queue : List Request) :
    considerRequests q { s with table := { s.table with queue := queue } } = considerRequests q s := by
  induction q generalizing s queue with
  | nil => rfl
  | cons r rest ih =>
    have same : judgeRequest { s with table := { s.table with queue := queue } } r = judgeRequest s r := rfl
    simp only [considerRequests, same]
    split
    · rfl
    · next c _ =>
      rw [← ih (absorbRequest c s) queue]; congr 1; cases c <;> rfl
    · next m _ =>
      rw [← ih (applyRequest r m s) queue]; congr 1
      by_cases e : m = r.index <;> simp only [applyRequest, e, if_true, if_false] <;> rfl

/-- A consideration with a given queue considers that queue's requests (R71). -/
theorem considerHead_queue (queue : List Request) :
    considerHead { s with table := { s.table with queue := queue } } = considerRequests queue s :=
  considerRequests_ignores s queue queue

end Sys2Proof.Machine
end

