-- ==== Sys2Proof/Laws/Assembly.lean ====
section
/-! SUPPORT. Frame assembly: what a placement, a frame start and the flush completion reach (R91 to R113, R166). -/

namespace Sys2Proof.Machine

variable (s : State)

@[simp] theorem placeFrame_intake (segOrigin : Byte) (segSeq : BitVec 16) (body : FrameBody) : (placeFrame segOrigin segSeq body s).intake = s.intake := by
  unfold placeFrame; simp
@[simp] theorem placeFrame_memory (segOrigin : Byte) (segSeq : BitVec 16) (body : FrameBody) : (placeFrame segOrigin segSeq body s).memory = s.memory := by
  unfold placeFrame; simp
@[simp] theorem placeFrame_gaps (segOrigin : Byte) (segSeq : BitVec 16) (body : FrameBody) : (placeFrame segOrigin segSeq body s).gaps = s.gaps := by
  unfold placeFrame; simp
@[simp] theorem placeFrame_markers (segOrigin : Byte) (segSeq : BitVec 16) (body : FrameBody) : (placeFrame segOrigin segSeq body s).markers = s.markers := by
  unfold placeFrame; simp
@[simp] theorem placeFrame_table (segOrigin : Byte) (segSeq : BitVec 16) (body : FrameBody) : (placeFrame segOrigin segSeq body s).table = s.table := by
  unfold placeFrame; simp
@[simp] theorem placeFrame_presence (segOrigin : Byte) (segSeq : BitVec 16) (body : FrameBody) : (placeFrame segOrigin segSeq body s).presence = s.presence := by
  unfold placeFrame; simp
@[simp] theorem placeFrame_station (segOrigin : Byte) (segSeq : BitVec 16) (body : FrameBody) : (placeFrame segOrigin segSeq body s).station = s.station := by
  unfold placeFrame; simp
@[simp] theorem placeFrame_port (segOrigin : Byte) (segSeq : BitVec 16) (body : FrameBody) : (placeFrame segOrigin segSeq body s).port = s.port := by
  unfold placeFrame; simp
@[simp] theorem placeFrame_faults (segOrigin : Byte) (segSeq : BitVec 16) (body : FrameBody) : (placeFrame segOrigin segSeq body s).faults = s.faults := by
  unfold placeFrame; simp
@[simp] theorem placeFrame_counters (segOrigin : Byte) (segSeq : BitVec 16) (body : FrameBody) : (placeFrame segOrigin segSeq body s).counters = s.counters := by
  unfold placeFrame; simp
@[simp] theorem placeFrame_resetHeld (segOrigin : Byte) (segSeq : BitVec 16) (body : FrameBody) : (placeFrame segOrigin segSeq body s).resetHeld = s.resetHeld := by
  unfold placeFrame; simp
@[simp] theorem placeFrame_pending (segOrigin : Byte) (segSeq : BitVec 16) (body : FrameBody) : (placeFrame segOrigin segSeq body s).pending = s.pending := by
  unfold placeFrame; simp
@[simp] theorem placeFrame_spine_ownAddress (segOrigin : Byte) (segSeq : BitVec 16) (body : FrameBody) : (placeFrame segOrigin segSeq body s).spine.ownAddress = s.spine.ownAddress := by
  unfold placeFrame; simp
@[simp] theorem placeFrame_spine_strapSample (segOrigin : Byte) (segSeq : BitVec 16) (body : FrameBody) : (placeFrame segOrigin segSeq body s).spine.strapSample = s.spine.strapSample := by
  unfold placeFrame; simp
@[simp] theorem placeFrame_spine_input (segOrigin : Byte) (segSeq : BitVec 16) (body : FrameBody) : (placeFrame segOrigin segSeq body s).spine.input = s.spine.input := by
  unfold placeFrame; simp
@[simp] theorem placeFrame_spine_transit (segOrigin : Byte) (segSeq : BitVec 16) (body : FrameBody) : (placeFrame segOrigin segSeq body s).spine.transit = s.spine.transit := by
  unfold placeFrame; simp
@[simp] theorem placeFrame_spine_hold (segOrigin : Byte) (segSeq : BitVec 16) (body : FrameBody) : (placeFrame segOrigin segSeq body s).spine.hold = s.spine.hold := by
  unfold placeFrame; simp
@[simp] theorem placeFrame_spine_lastSent (segOrigin : Byte) (segSeq : BitVec 16) (body : FrameBody) : (placeFrame segOrigin segSeq body s).spine.lastSent = s.spine.lastSent := by
  unfold placeFrame; simp
@[simp] theorem placeFrame_assembler_drain (segOrigin : Byte) (segSeq : BitVec 16) (body : FrameBody) : (placeFrame segOrigin segSeq body s).assembler.drain = s.assembler.drain := by
  unfold placeFrame; simp
@[simp] theorem placeFrame_assembler_phase (segOrigin : Byte) (segSeq : BitVec 16) (body : FrameBody) : (placeFrame segOrigin segSeq body s).assembler.phase = s.assembler.phase := by
  unfold placeFrame; simp

/-- A placement: the frame joins the frame part at its tail (R91, R92, R122). -/
@[simp] theorem placeFrame_frames (segOrigin : Byte) (segSeq : BitVec 16) (body : FrameBody) :
    (placeFrame segOrigin segSeq body s).spine.frames =
      s.spine.frames ++
        [{ origin := s.unitOrigin, seq := s.assembler.frameSeq, segOrigin := segOrigin, segSeq := segSeq,
           body := body }] := by
  unfold placeFrame; simp

@[simp] theorem placeFrame_frameSeq (segOrigin : Byte) (segSeq : BitVec 16) (body : FrameBody) :
    (placeFrame segOrigin segSeq body s).assembler.frameSeq = s.assembler.frameSeq + 1 := by
  unfold placeFrame; simp

@[simp] theorem placeFrame_flushTimer (segOrigin : Byte) (segSeq : BitVec 16) (body : FrameBody) :
    (placeFrame segOrigin segSeq body s).assembler.flushTimer = .running := by
  unfold placeFrame; simp

@[simp] theorem placeTrailer_intake (head : Segment) : (placeTrailer head s).intake = s.intake := by
  unfold placeTrailer; simp
@[simp] theorem placeTrailer_memory (head : Segment) : (placeTrailer head s).memory = s.memory := by
  unfold placeTrailer; simp
@[simp] theorem placeTrailer_gaps (head : Segment) : (placeTrailer head s).gaps = s.gaps := by
  unfold placeTrailer; simp
@[simp] theorem placeTrailer_markers (head : Segment) : (placeTrailer head s).markers = s.markers := by
  unfold placeTrailer; simp
@[simp] theorem placeTrailer_presence (head : Segment) : (placeTrailer head s).presence = s.presence := by
  unfold placeTrailer; simp
@[simp] theorem placeTrailer_station (head : Segment) : (placeTrailer head s).station = s.station := by
  unfold placeTrailer; simp
@[simp] theorem placeTrailer_port (head : Segment) : (placeTrailer head s).port = s.port := by
  unfold placeTrailer; simp
@[simp] theorem placeTrailer_faults (head : Segment) : (placeTrailer head s).faults = s.faults := by
  unfold placeTrailer; simp
@[simp] theorem placeTrailer_counters (head : Segment) : (placeTrailer head s).counters = s.counters := by
  unfold placeTrailer; simp
@[simp] theorem placeTrailer_resetHeld (head : Segment) : (placeTrailer head s).resetHeld = s.resetHeld := by
  unfold placeTrailer; simp
@[simp] theorem placeTrailer_pending (head : Segment) : (placeTrailer head s).pending = s.pending := by
  unfold placeTrailer; simp
@[simp] theorem placeTrailer_spine_ownAddress (head : Segment) : (placeTrailer head s).spine.ownAddress = s.spine.ownAddress := by
  unfold placeTrailer; simp
@[simp] theorem placeTrailer_spine_strapSample (head : Segment) : (placeTrailer head s).spine.strapSample = s.spine.strapSample := by
  unfold placeTrailer; simp
@[simp] theorem placeTrailer_spine_input (head : Segment) : (placeTrailer head s).spine.input = s.spine.input := by
  unfold placeTrailer; simp
@[simp] theorem placeTrailer_spine_transit (head : Segment) : (placeTrailer head s).spine.transit = s.spine.transit := by
  unfold placeTrailer; simp
@[simp] theorem placeTrailer_spine_hold (head : Segment) : (placeTrailer head s).spine.hold = s.spine.hold := by
  unfold placeTrailer; simp
@[simp] theorem placeTrailer_spine_lastSent (head : Segment) : (placeTrailer head s).spine.lastSent = s.spine.lastSent := by
  unfold placeTrailer; simp
@[simp] theorem placeTrailer_assembler_drain (head : Segment) : (placeTrailer head s).assembler.drain = s.assembler.drain := by
  unfold placeTrailer; simp
@[simp] theorem placeTrailer_assembler_phase (head : Segment) : (placeTrailer head s).assembler.phase = s.assembler.phase := by
  unfold placeTrailer; simp
@[simp] theorem placeGap_intake (head : Segment) (e : GapEntry) : (placeGap head e s).intake = s.intake := by
  unfold placeGap; simp
@[simp] theorem placeGap_memory (head : Segment) (e : GapEntry) : (placeGap head e s).memory = s.memory := by
  unfold placeGap; simp
@[simp] theorem placeGap_markers (head : Segment) (e : GapEntry) : (placeGap head e s).markers = s.markers := by
  unfold placeGap; simp
@[simp] theorem placeGap_presence (head : Segment) (e : GapEntry) : (placeGap head e s).presence = s.presence := by
  unfold placeGap; simp
@[simp] theorem placeGap_station (head : Segment) (e : GapEntry) : (placeGap head e s).station = s.station := by
  unfold placeGap; simp
@[simp] theorem placeGap_port (head : Segment) (e : GapEntry) : (placeGap head e s).port = s.port := by
  unfold placeGap; simp
@[simp] theorem placeGap_resetHeld (head : Segment) (e : GapEntry) : (placeGap head e s).resetHeld = s.resetHeld := by
  unfold placeGap; simp
@[simp] theorem placeGap_pending (head : Segment) (e : GapEntry) : (placeGap head e s).pending = s.pending := by
  unfold placeGap; simp
@[simp] theorem placeGap_spine_ownAddress (head : Segment) (e : GapEntry) : (placeGap head e s).spine.ownAddress = s.spine.ownAddress := by
  unfold placeGap; simp
@[simp] theorem placeGap_spine_strapSample (head : Segment) (e : GapEntry) : (placeGap head e s).spine.strapSample = s.spine.strapSample := by
  unfold placeGap; simp
@[simp] theorem placeGap_spine_input (head : Segment) (e : GapEntry) : (placeGap head e s).spine.input = s.spine.input := by
  unfold placeGap; simp
@[simp] theorem placeGap_spine_transit (head : Segment) (e : GapEntry) : (placeGap head e s).spine.transit = s.spine.transit := by
  unfold placeGap; simp
@[simp] theorem placeGap_spine_hold (head : Segment) (e : GapEntry) : (placeGap head e s).spine.hold = s.spine.hold := by
  unfold placeGap; simp
@[simp] theorem placeGap_spine_lastSent (head : Segment) (e : GapEntry) : (placeGap head e s).spine.lastSent = s.spine.lastSent := by
  unfold placeGap; simp
@[simp] theorem placeGap_faults_mode (head : Segment) (e : GapEntry) : (placeGap head e s).faults.mode = s.faults.mode := by
  unfold placeGap; simp
@[simp] theorem placeGap_faults_alertMask (head : Segment) (e : GapEntry) : (placeGap head e s).faults.alertMask = s.faults.alertMask := by
  unfold placeGap; simp
@[simp] theorem placeGap_counters_staged (head : Segment) (e : GapEntry) : (placeGap head e s).counters.staged = s.counters.staged := by
  unfold placeGap; simp
@[simp] theorem placeGap_counters_gapSamples (head : Segment) (e : GapEntry) : (placeGap head e s).counters.gapSamples = s.counters.gapSamples := by
  unfold placeGap; simp
@[simp] theorem placeGap_counters_lateRefresh (head : Segment) (e : GapEntry) : (placeGap head e s).counters.lateRefresh = s.counters.lateRefresh := by
  unfold placeGap; simp
@[simp] theorem placeGap_counters_corrected (head : Segment) (e : GapEntry) : (placeGap head e s).counters.corrected = s.counters.corrected := by
  unfold placeGap; simp
@[simp] theorem placeGap_counters_uncorrectable (head : Segment) (e : GapEntry) : (placeGap head e s).counters.uncorrectable = s.counters.uncorrectable := by
  unfold placeGap; simp
@[simp] theorem placeGap_counters_suppressed (head : Segment) (e : GapEntry) : (placeGap head e s).counters.suppressed = s.counters.suppressed := by
  unfold placeGap; simp
@[simp] theorem placeGap_counters_overflow (head : Segment) (e : GapEntry) : (placeGap head e s).counters.overflow = s.counters.overflow := by
  unfold placeGap; simp
@[simp] theorem placeGap_counters_checkError (head : Segment) (e : GapEntry) : (placeGap head e s).counters.checkError = s.counters.checkError := by
  unfold placeGap; simp
@[simp] theorem placeGap_counters_orphan (head : Segment) (e : GapEntry) : (placeGap head e s).counters.orphan = s.counters.orphan := by
  unfold placeGap; simp
@[simp] theorem placeGap_counters_unclaimed (head : Segment) (e : GapEntry) : (placeGap head e s).counters.unclaimed = s.counters.unclaimed := by
  unfold placeGap; simp
@[simp] theorem placeGap_counters_forcedRefresh (head : Segment) (e : GapEntry) : (placeGap head e s).counters.forcedRefresh = s.counters.forcedRefresh := by
  unfold placeGap; simp
@[simp] theorem placeGap_assembler_phase (head : Segment) (e : GapEntry) : (placeGap head e s).assembler.phase = s.assembler.phase := by
  unfold placeGap; simp
@[simp] theorem startData_intake (head : Segment) (last : Nat) : (startData head last s).intake = s.intake := by
  unfold startData; simp
@[simp] theorem startData_gaps (head : Segment) (last : Nat) : (startData head last s).gaps = s.gaps := by
  unfold startData; simp
@[simp] theorem startData_markers (head : Segment) (last : Nat) : (startData head last s).markers = s.markers := by
  unfold startData; simp
@[simp] theorem startData_spine (head : Segment) (last : Nat) : (startData head last s).spine = s.spine := by
  unfold startData; simp
@[simp] theorem startData_presence (head : Segment) (last : Nat) : (startData head last s).presence = s.presence := by
  unfold startData; simp
@[simp] theorem startData_station (head : Segment) (last : Nat) : (startData head last s).station = s.station := by
  unfold startData; simp
@[simp] theorem startData_port (head : Segment) (last : Nat) : (startData head last s).port = s.port := by
  unfold startData; simp
@[simp] theorem startData_resetHeld (head : Segment) (last : Nat) : (startData head last s).resetHeld = s.resetHeld := by
  unfold startData; simp
@[simp] theorem startData_pending (head : Segment) (last : Nat) : (startData head last s).pending = s.pending := by
  unfold startData; simp
@[simp] theorem startData_memory_dram (head : Segment) (last : Nat) : (startData head last s).memory.dram = s.memory.dram := by
  unfold startData; simp
@[simp] theorem startData_memory_writeSlot (head : Segment) (last : Nat) : (startData head last s).memory.writeSlot = s.memory.writeSlot := by
  unfold startData; simp
@[simp] theorem startData_memory_drainSlot (head : Segment) (last : Nat) : (startData head last s).memory.drainSlot = s.memory.drainSlot := by
  unfold startData; simp
@[simp] theorem startData_memory_storedCount (head : Segment) (last : Nat) : (startData head last s).memory.storedCount = s.memory.storedCount := by
  unfold startData; simp
@[simp] theorem startData_memory_staging (head : Segment) (last : Nat) : (startData head last s).memory.staging = s.memory.staging := by
  unfold startData; simp
@[simp] theorem startData_memory_owed (head : Segment) (last : Nat) : (startData head last s).memory.owed = s.memory.owed := by
  unfold startData; simp
@[simp] theorem startData_memory_refreshTimer (head : Segment) (last : Nat) : (startData head last s).memory.refreshTimer = s.memory.refreshTimer := by
  unfold startData; simp
@[simp] theorem startData_memory_thermal (head : Segment) (last : Nat) : (startData head last s).memory.thermal = s.memory.thermal := by
  unfold startData; simp
@[simp] theorem startData_memory_selfRefresh (head : Segment) (last : Nat) : (startData head last s).memory.selfRefresh = s.memory.selfRefresh := by
  unfold startData; simp
@[simp] theorem startData_faults_mode (head : Segment) (last : Nat) : (startData head last s).faults.mode = s.faults.mode := by
  unfold startData; simp
@[simp] theorem startData_faults_alertMask (head : Segment) (last : Nat) : (startData head last s).faults.alertMask = s.faults.alertMask := by
  unfold startData; simp
@[simp] theorem startData_counters_staged (head : Segment) (last : Nat) : (startData head last s).counters.staged = s.counters.staged := by
  unfold startData; simp
@[simp] theorem startData_counters_gapSamples (head : Segment) (last : Nat) : (startData head last s).counters.gapSamples = s.counters.gapSamples := by
  unfold startData; simp
@[simp] theorem startData_counters_lateRefresh (head : Segment) (last : Nat) : (startData head last s).counters.lateRefresh = s.counters.lateRefresh := by
  unfold startData; simp
@[simp] theorem startData_counters_corrected (head : Segment) (last : Nat) : (startData head last s).counters.corrected = s.counters.corrected := by
  unfold startData; simp
@[simp] theorem startData_counters_uncorrectable (head : Segment) (last : Nat) : (startData head last s).counters.uncorrectable = s.counters.uncorrectable := by
  unfold startData; simp
@[simp] theorem startData_counters_suppressed (head : Segment) (last : Nat) : (startData head last s).counters.suppressed = s.counters.suppressed := by
  unfold startData; simp
@[simp] theorem startData_counters_overflow (head : Segment) (last : Nat) : (startData head last s).counters.overflow = s.counters.overflow := by
  unfold startData; simp
@[simp] theorem startData_counters_checkError (head : Segment) (last : Nat) : (startData head last s).counters.checkError = s.counters.checkError := by
  unfold startData; simp
@[simp] theorem startData_counters_orphan (head : Segment) (last : Nat) : (startData head last s).counters.orphan = s.counters.orphan := by
  unfold startData; simp
@[simp] theorem startData_counters_unclaimed (head : Segment) (last : Nat) : (startData head last s).counters.unclaimed = s.counters.unclaimed := by
  unfold startData; simp
@[simp] theorem startData_assembler_frameSeq (head : Segment) (last : Nat) : (startData head last s).assembler.frameSeq = s.assembler.frameSeq := by
  unfold startData; simp
@[simp] theorem startData_assembler_flushTimer (head : Segment) (last : Nat) : (startData head last s).assembler.flushTimer = s.assembler.flushTimer := by
  unfold startData; simp
@[simp] theorem placeMemoryGap_intake : (placeMemoryGap s).intake = s.intake := by
  unfold placeMemoryGap; split
  · split
    · simp
    · rfl
  · rfl
  · rfl
@[simp] theorem placeMemoryGap_memory : (placeMemoryGap s).memory = s.memory := by
  unfold placeMemoryGap; split
  · split
    · simp
    · rfl
  · rfl
  · rfl
@[simp] theorem placeMemoryGap_gaps : (placeMemoryGap s).gaps = s.gaps := by
  unfold placeMemoryGap; split
  · split
    · simp
    · rfl
  · rfl
  · rfl
@[simp] theorem placeMemoryGap_markers : (placeMemoryGap s).markers = s.markers := by
  unfold placeMemoryGap; split
  · split
    · simp
    · rfl
  · rfl
  · rfl
@[simp] theorem placeMemoryGap_presence : (placeMemoryGap s).presence = s.presence := by
  unfold placeMemoryGap; split
  · split
    · simp
    · rfl
  · rfl
  · rfl
@[simp] theorem placeMemoryGap_station : (placeMemoryGap s).station = s.station := by
  unfold placeMemoryGap; split
  · split
    · simp
    · rfl
  · rfl
  · rfl
@[simp] theorem placeMemoryGap_port : (placeMemoryGap s).port = s.port := by
  unfold placeMemoryGap; split
  · split
    · simp
    · rfl
  · rfl
  · rfl
@[simp] theorem placeMemoryGap_faults : (placeMemoryGap s).faults = s.faults := by
  unfold placeMemoryGap; split
  · split
    · simp
    · rfl
  · rfl
  · rfl
@[simp] theorem placeMemoryGap_counters : (placeMemoryGap s).counters = s.counters := by
  unfold placeMemoryGap; split
  · split
    · simp
    · rfl
  · rfl
  · rfl
@[simp] theorem placeMemoryGap_resetHeld : (placeMemoryGap s).resetHeld = s.resetHeld := by
  unfold placeMemoryGap; split
  · split
    · simp
    · rfl
  · rfl
  · rfl
@[simp] theorem placeMemoryGap_pending : (placeMemoryGap s).pending = s.pending := by
  unfold placeMemoryGap; split
  · split
    · simp
    · rfl
  · rfl
  · rfl
@[simp] theorem placeMemoryGap_spine_ownAddress : (placeMemoryGap s).spine.ownAddress = s.spine.ownAddress := by
  unfold placeMemoryGap; split
  · split
    · simp
    · rfl
  · rfl
  · rfl
@[simp] theorem placeMemoryGap_spine_strapSample : (placeMemoryGap s).spine.strapSample = s.spine.strapSample := by
  unfold placeMemoryGap; split
  · split
    · simp
    · rfl
  · rfl
  · rfl
@[simp] theorem placeMemoryGap_spine_input : (placeMemoryGap s).spine.input = s.spine.input := by
  unfold placeMemoryGap; split
  · split
    · simp
    · rfl
  · rfl
  · rfl
@[simp] theorem placeMemoryGap_spine_transit : (placeMemoryGap s).spine.transit = s.spine.transit := by
  unfold placeMemoryGap; split
  · split
    · simp
    · rfl
  · rfl
  · rfl
@[simp] theorem placeMemoryGap_spine_hold : (placeMemoryGap s).spine.hold = s.spine.hold := by
  unfold placeMemoryGap; split
  · split
    · simp
    · rfl
  · rfl
  · rfl
@[simp] theorem placeMemoryGap_spine_lastSent : (placeMemoryGap s).spine.lastSent = s.spine.lastSent := by
  unfold placeMemoryGap; split
  · split
    · simp
    · rfl
  · rfl
  · rfl
@[simp] theorem placeMemoryGap_assembler_drain : (placeMemoryGap s).assembler.drain = s.assembler.drain := by
  unfold placeMemoryGap; split
  · split
    · simp
    · rfl
  · rfl
  · rfl
@[simp] theorem placeMemoryGap_table_queue : (placeMemoryGap s).table.queue = s.table.queue := by
  unfold placeMemoryGap; split
  · split
    · simp
    · rfl
  · rfl
  · rfl
@[simp] theorem placeMemoryGap_table_head : (placeMemoryGap s).table.head = s.table.head := by
  unfold placeMemoryGap; split
  · split
    · simp
    · rfl
  · rfl
  · rfl
@[simp] theorem takeDueFrame_intake (due : DueFrame) : (takeDueFrame due s).intake = s.intake := by
  cases due <;> simp [takeDueFrame]
@[simp] theorem takeDueFrame_markers (due : DueFrame) : (takeDueFrame due s).markers = s.markers := by
  cases due <;> simp [takeDueFrame]
@[simp] theorem takeDueFrame_presence (due : DueFrame) : (takeDueFrame due s).presence = s.presence := by
  cases due <;> simp [takeDueFrame]
@[simp] theorem takeDueFrame_station (due : DueFrame) : (takeDueFrame due s).station = s.station := by
  cases due <;> simp [takeDueFrame]
@[simp] theorem takeDueFrame_port (due : DueFrame) : (takeDueFrame due s).port = s.port := by
  cases due <;> simp [takeDueFrame]
@[simp] theorem takeDueFrame_resetHeld (due : DueFrame) : (takeDueFrame due s).resetHeld = s.resetHeld := by
  cases due <;> simp [takeDueFrame]
@[simp] theorem takeDueFrame_pending (due : DueFrame) : (takeDueFrame due s).pending = s.pending := by
  cases due <;> simp [takeDueFrame]
@[simp] theorem takeDueFrame_memory_dram (due : DueFrame) : (takeDueFrame due s).memory.dram = s.memory.dram := by
  cases due <;> simp [takeDueFrame]
@[simp] theorem takeDueFrame_memory_writeSlot (due : DueFrame) : (takeDueFrame due s).memory.writeSlot = s.memory.writeSlot := by
  cases due <;> simp [takeDueFrame]
@[simp] theorem takeDueFrame_memory_drainSlot (due : DueFrame) : (takeDueFrame due s).memory.drainSlot = s.memory.drainSlot := by
  cases due <;> simp [takeDueFrame]
@[simp] theorem takeDueFrame_memory_storedCount (due : DueFrame) : (takeDueFrame due s).memory.storedCount = s.memory.storedCount := by
  cases due <;> simp [takeDueFrame]
@[simp] theorem takeDueFrame_memory_staging (due : DueFrame) : (takeDueFrame due s).memory.staging = s.memory.staging := by
  cases due <;> simp [takeDueFrame]
@[simp] theorem takeDueFrame_memory_owed (due : DueFrame) : (takeDueFrame due s).memory.owed = s.memory.owed := by
  cases due <;> simp [takeDueFrame]
@[simp] theorem takeDueFrame_memory_refreshTimer (due : DueFrame) : (takeDueFrame due s).memory.refreshTimer = s.memory.refreshTimer := by
  cases due <;> simp [takeDueFrame]
@[simp] theorem takeDueFrame_memory_thermal (due : DueFrame) : (takeDueFrame due s).memory.thermal = s.memory.thermal := by
  cases due <;> simp [takeDueFrame]
@[simp] theorem takeDueFrame_memory_selfRefresh (due : DueFrame) : (takeDueFrame due s).memory.selfRefresh = s.memory.selfRefresh := by
  cases due <;> simp [takeDueFrame]
@[simp] theorem takeDueFrame_spine_ownAddress (due : DueFrame) : (takeDueFrame due s).spine.ownAddress = s.spine.ownAddress := by
  cases due <;> simp [takeDueFrame]
@[simp] theorem takeDueFrame_spine_strapSample (due : DueFrame) : (takeDueFrame due s).spine.strapSample = s.spine.strapSample := by
  cases due <;> simp [takeDueFrame]
@[simp] theorem takeDueFrame_spine_input (due : DueFrame) : (takeDueFrame due s).spine.input = s.spine.input := by
  cases due <;> simp [takeDueFrame]
@[simp] theorem takeDueFrame_spine_transit (due : DueFrame) : (takeDueFrame due s).spine.transit = s.spine.transit := by
  cases due <;> simp [takeDueFrame]
@[simp] theorem takeDueFrame_spine_hold (due : DueFrame) : (takeDueFrame due s).spine.hold = s.spine.hold := by
  cases due <;> simp [takeDueFrame]
@[simp] theorem takeDueFrame_spine_lastSent (due : DueFrame) : (takeDueFrame due s).spine.lastSent = s.spine.lastSent := by
  cases due <;> simp [takeDueFrame]
@[simp] theorem takeDueFrame_faults_mode (due : DueFrame) : (takeDueFrame due s).faults.mode = s.faults.mode := by
  cases due <;> simp [takeDueFrame]
@[simp] theorem takeDueFrame_faults_alertMask (due : DueFrame) : (takeDueFrame due s).faults.alertMask = s.faults.alertMask := by
  cases due <;> simp [takeDueFrame]
@[simp] theorem takeDueFrame_counters_staged (due : DueFrame) : (takeDueFrame due s).counters.staged = s.counters.staged := by
  cases due <;> simp [takeDueFrame]
@[simp] theorem takeDueFrame_counters_gapSamples (due : DueFrame) : (takeDueFrame due s).counters.gapSamples = s.counters.gapSamples := by
  cases due <;> simp [takeDueFrame]
@[simp] theorem takeDueFrame_counters_lateRefresh (due : DueFrame) : (takeDueFrame due s).counters.lateRefresh = s.counters.lateRefresh := by
  cases due <;> simp [takeDueFrame]
@[simp] theorem takeDueFrame_counters_corrected (due : DueFrame) : (takeDueFrame due s).counters.corrected = s.counters.corrected := by
  cases due <;> simp [takeDueFrame]
@[simp] theorem takeDueFrame_counters_uncorrectable (due : DueFrame) : (takeDueFrame due s).counters.uncorrectable = s.counters.uncorrectable := by
  cases due <;> simp [takeDueFrame]
@[simp] theorem takeDueFrame_counters_suppressed (due : DueFrame) : (takeDueFrame due s).counters.suppressed = s.counters.suppressed := by
  cases due <;> simp [takeDueFrame]
@[simp] theorem takeDueFrame_counters_overflow (due : DueFrame) : (takeDueFrame due s).counters.overflow = s.counters.overflow := by
  cases due <;> simp [takeDueFrame]
@[simp] theorem takeDueFrame_counters_checkError (due : DueFrame) : (takeDueFrame due s).counters.checkError = s.counters.checkError := by
  cases due <;> simp [takeDueFrame]
@[simp] theorem takeDueFrame_counters_orphan (due : DueFrame) : (takeDueFrame due s).counters.orphan = s.counters.orphan := by
  cases due <;> simp [takeDueFrame]
@[simp] theorem takeDueFrame_counters_unclaimed (due : DueFrame) : (takeDueFrame due s).counters.unclaimed = s.counters.unclaimed := by
  cases due <;> simp [takeDueFrame]
@[simp] theorem considerFrames_intake (fuel : Nat) : (considerFrames fuel s).intake = s.intake := by
  induction fuel generalizing s with
  | zero => rfl
  | succ n ih => unfold considerFrames; split <;> simp [ih]
@[simp] theorem considerFrames_markers (fuel : Nat) : (considerFrames fuel s).markers = s.markers := by
  induction fuel generalizing s with
  | zero => rfl
  | succ n ih => unfold considerFrames; split <;> simp [ih]
@[simp] theorem considerFrames_presence (fuel : Nat) : (considerFrames fuel s).presence = s.presence := by
  induction fuel generalizing s with
  | zero => rfl
  | succ n ih => unfold considerFrames; split <;> simp [ih]
@[simp] theorem considerFrames_station (fuel : Nat) : (considerFrames fuel s).station = s.station := by
  induction fuel generalizing s with
  | zero => rfl
  | succ n ih => unfold considerFrames; split <;> simp [ih]
@[simp] theorem considerFrames_port (fuel : Nat) : (considerFrames fuel s).port = s.port := by
  induction fuel generalizing s with
  | zero => rfl
  | succ n ih => unfold considerFrames; split <;> simp [ih]
@[simp] theorem considerFrames_resetHeld (fuel : Nat) : (considerFrames fuel s).resetHeld = s.resetHeld := by
  induction fuel generalizing s with
  | zero => rfl
  | succ n ih => unfold considerFrames; split <;> simp [ih]
@[simp] theorem considerFrames_pending (fuel : Nat) : (considerFrames fuel s).pending = s.pending := by
  induction fuel generalizing s with
  | zero => rfl
  | succ n ih => unfold considerFrames; split <;> simp [ih]
@[simp] theorem considerFrames_memory_dram (fuel : Nat) : (considerFrames fuel s).memory.dram = s.memory.dram := by
  induction fuel generalizing s with
  | zero => rfl
  | succ n ih => unfold considerFrames; split <;> simp [ih]
@[simp] theorem considerFrames_memory_writeSlot (fuel : Nat) : (considerFrames fuel s).memory.writeSlot = s.memory.writeSlot := by
  induction fuel generalizing s with
  | zero => rfl
  | succ n ih => unfold considerFrames; split <;> simp [ih]
@[simp] theorem considerFrames_memory_drainSlot (fuel : Nat) : (considerFrames fuel s).memory.drainSlot = s.memory.drainSlot := by
  induction fuel generalizing s with
  | zero => rfl
  | succ n ih => unfold considerFrames; split <;> simp [ih]
@[simp] theorem considerFrames_memory_storedCount (fuel : Nat) : (considerFrames fuel s).memory.storedCount = s.memory.storedCount := by
  induction fuel generalizing s with
  | zero => rfl
  | succ n ih => unfold considerFrames; split <;> simp [ih]
@[simp] theorem considerFrames_memory_staging (fuel : Nat) : (considerFrames fuel s).memory.staging = s.memory.staging := by
  induction fuel generalizing s with
  | zero => rfl
  | succ n ih => unfold considerFrames; split <;> simp [ih]
@[simp] theorem considerFrames_memory_owed (fuel : Nat) : (considerFrames fuel s).memory.owed = s.memory.owed := by
  induction fuel generalizing s with
  | zero => rfl
  | succ n ih => unfold considerFrames; split <;> simp [ih]
@[simp] theorem considerFrames_memory_refreshTimer (fuel : Nat) : (considerFrames fuel s).memory.refreshTimer = s.memory.refreshTimer := by
  induction fuel generalizing s with
  | zero => rfl
  | succ n ih => unfold considerFrames; split <;> simp [ih]
@[simp] theorem considerFrames_memory_thermal (fuel : Nat) : (considerFrames fuel s).memory.thermal = s.memory.thermal := by
  induction fuel generalizing s with
  | zero => rfl
  | succ n ih => unfold considerFrames; split <;> simp [ih]
@[simp] theorem considerFrames_memory_selfRefresh (fuel : Nat) : (considerFrames fuel s).memory.selfRefresh = s.memory.selfRefresh := by
  induction fuel generalizing s with
  | zero => rfl
  | succ n ih => unfold considerFrames; split <;> simp [ih]
@[simp] theorem considerFrames_spine_ownAddress (fuel : Nat) : (considerFrames fuel s).spine.ownAddress = s.spine.ownAddress := by
  induction fuel generalizing s with
  | zero => rfl
  | succ n ih => unfold considerFrames; split <;> simp [ih]
@[simp] theorem considerFrames_spine_strapSample (fuel : Nat) : (considerFrames fuel s).spine.strapSample = s.spine.strapSample := by
  induction fuel generalizing s with
  | zero => rfl
  | succ n ih => unfold considerFrames; split <;> simp [ih]
@[simp] theorem considerFrames_spine_input (fuel : Nat) : (considerFrames fuel s).spine.input = s.spine.input := by
  induction fuel generalizing s with
  | zero => rfl
  | succ n ih => unfold considerFrames; split <;> simp [ih]
@[simp] theorem considerFrames_spine_transit (fuel : Nat) : (considerFrames fuel s).spine.transit = s.spine.transit := by
  induction fuel generalizing s with
  | zero => rfl
  | succ n ih => unfold considerFrames; split <;> simp [ih]
@[simp] theorem considerFrames_spine_hold (fuel : Nat) : (considerFrames fuel s).spine.hold = s.spine.hold := by
  induction fuel generalizing s with
  | zero => rfl
  | succ n ih => unfold considerFrames; split <;> simp [ih]
@[simp] theorem considerFrames_spine_lastSent (fuel : Nat) : (considerFrames fuel s).spine.lastSent = s.spine.lastSent := by
  induction fuel generalizing s with
  | zero => rfl
  | succ n ih => unfold considerFrames; split <;> simp [ih]
@[simp] theorem considerFrames_faults_mode (fuel : Nat) : (considerFrames fuel s).faults.mode = s.faults.mode := by
  induction fuel generalizing s with
  | zero => rfl
  | succ n ih => unfold considerFrames; split <;> simp [ih]
@[simp] theorem considerFrames_faults_alertMask (fuel : Nat) : (considerFrames fuel s).faults.alertMask = s.faults.alertMask := by
  induction fuel generalizing s with
  | zero => rfl
  | succ n ih => unfold considerFrames; split <;> simp [ih]
@[simp] theorem considerFrames_counters_staged (fuel : Nat) : (considerFrames fuel s).counters.staged = s.counters.staged := by
  induction fuel generalizing s with
  | zero => rfl
  | succ n ih => unfold considerFrames; split <;> simp [ih]
@[simp] theorem considerFrames_counters_gapSamples (fuel : Nat) : (considerFrames fuel s).counters.gapSamples = s.counters.gapSamples := by
  induction fuel generalizing s with
  | zero => rfl
  | succ n ih => unfold considerFrames; split <;> simp [ih]
@[simp] theorem considerFrames_counters_lateRefresh (fuel : Nat) : (considerFrames fuel s).counters.lateRefresh = s.counters.lateRefresh := by
  induction fuel generalizing s with
  | zero => rfl
  | succ n ih => unfold considerFrames; split <;> simp [ih]
@[simp] theorem considerFrames_counters_corrected (fuel : Nat) : (considerFrames fuel s).counters.corrected = s.counters.corrected := by
  induction fuel generalizing s with
  | zero => rfl
  | succ n ih => unfold considerFrames; split <;> simp [ih]
@[simp] theorem considerFrames_counters_uncorrectable (fuel : Nat) : (considerFrames fuel s).counters.uncorrectable = s.counters.uncorrectable := by
  induction fuel generalizing s with
  | zero => rfl
  | succ n ih => unfold considerFrames; split <;> simp [ih]
@[simp] theorem considerFrames_counters_suppressed (fuel : Nat) : (considerFrames fuel s).counters.suppressed = s.counters.suppressed := by
  induction fuel generalizing s with
  | zero => rfl
  | succ n ih => unfold considerFrames; split <;> simp [ih]
@[simp] theorem considerFrames_counters_overflow (fuel : Nat) : (considerFrames fuel s).counters.overflow = s.counters.overflow := by
  induction fuel generalizing s with
  | zero => rfl
  | succ n ih => unfold considerFrames; split <;> simp [ih]
@[simp] theorem considerFrames_counters_checkError (fuel : Nat) : (considerFrames fuel s).counters.checkError = s.counters.checkError := by
  induction fuel generalizing s with
  | zero => rfl
  | succ n ih => unfold considerFrames; split <;> simp [ih]
@[simp] theorem considerFrames_counters_orphan (fuel : Nat) : (considerFrames fuel s).counters.orphan = s.counters.orphan := by
  induction fuel generalizing s with
  | zero => rfl
  | succ n ih => unfold considerFrames; split <;> simp [ih]
@[simp] theorem considerFrames_counters_unclaimed (fuel : Nat) : (considerFrames fuel s).counters.unclaimed = s.counters.unclaimed := by
  induction fuel generalizing s with
  | zero => rfl
  | succ n ih => unfold considerFrames; split <;> simp [ih]
@[simp] theorem completeFlush_intake : (completeFlush s).intake = s.intake := by
  unfold completeFlush; split <;> rfl
@[simp] theorem completeFlush_memory : (completeFlush s).memory = s.memory := by
  unfold completeFlush; split <;> rfl
@[simp] theorem completeFlush_gaps : (completeFlush s).gaps = s.gaps := by
  unfold completeFlush; split <;> rfl
@[simp] theorem completeFlush_markers : (completeFlush s).markers = s.markers := by
  unfold completeFlush; split <;> rfl
@[simp] theorem completeFlush_table : (completeFlush s).table = s.table := by
  unfold completeFlush; split <;> rfl
@[simp] theorem completeFlush_spine : (completeFlush s).spine = s.spine := by
  unfold completeFlush; split <;> rfl
@[simp] theorem completeFlush_presence : (completeFlush s).presence = s.presence := by
  unfold completeFlush; split <;> rfl
@[simp] theorem completeFlush_port : (completeFlush s).port = s.port := by
  unfold completeFlush; split <;> rfl
@[simp] theorem completeFlush_faults : (completeFlush s).faults = s.faults := by
  unfold completeFlush; split <;> rfl
@[simp] theorem completeFlush_counters : (completeFlush s).counters = s.counters := by
  unfold completeFlush; split <;> rfl
@[simp] theorem completeFlush_resetHeld : (completeFlush s).resetHeld = s.resetHeld := by
  unfold completeFlush; split <;> rfl
@[simp] theorem completeFlush_pending : (completeFlush s).pending = s.pending := by
  unfold completeFlush; split <;> rfl
@[simp] theorem completeFlush_assembler_drain : (completeFlush s).assembler.drain = s.assembler.drain := by
  unfold completeFlush; split <;> rfl
@[simp] theorem completeFlush_assembler_phase : (completeFlush s).assembler.phase = s.assembler.phase := by
  unfold completeFlush; split <;> rfl
@[simp] theorem completeFlush_assembler_frameSeq : (completeFlush s).assembler.frameSeq = s.assembler.frameSeq := by
  unfold completeFlush; split <;> rfl
@[simp] theorem completeFlush_station_config : (completeFlush s).station.config = s.station.config := by
  unfold completeFlush; split <;> rfl
@[simp] theorem completeFlush_station_startCount : (completeFlush s).station.startCount = s.station.startCount := by
  unfold completeFlush; split <;> rfl
@[simp] theorem completeFlush_station_capturedTag : (completeFlush s).station.capturedTag = s.station.capturedTag := by
  unfold completeFlush; split <;> rfl
@[simp] theorem completeFlush_station_incarnation : (completeFlush s).station.incarnation = s.station.incarnation := by
  unfold completeFlush; split <;> rfl
@[simp] theorem completeFlush_station_lastRejection : (completeFlush s).station.lastRejection = s.station.lastRejection := by
  unfold completeFlush; split <;> rfl
@[simp] theorem completeFlush_station_deviceNumber : (completeFlush s).station.deviceNumber = s.station.deviceNumber := by
  unfold completeFlush; split <;> rfl
@[simp] theorem settle_intake : (settle s).intake = s.intake := by
  unfold settle; simp
@[simp] theorem settle_markers : (settle s).markers = s.markers := by
  unfold settle; simp
@[simp] theorem settle_presence : (settle s).presence = s.presence := by
  unfold settle; simp
@[simp] theorem settle_port : (settle s).port = s.port := by
  unfold settle; simp
@[simp] theorem settle_resetHeld : (settle s).resetHeld = s.resetHeld := by
  unfold settle; simp
@[simp] theorem settle_pending : (settle s).pending = s.pending := by
  unfold settle; simp
@[simp] theorem settle_memory_dram : (settle s).memory.dram = s.memory.dram := by
  unfold settle; simp
@[simp] theorem settle_memory_writeSlot : (settle s).memory.writeSlot = s.memory.writeSlot := by
  unfold settle; simp
@[simp] theorem settle_memory_drainSlot : (settle s).memory.drainSlot = s.memory.drainSlot := by
  unfold settle; simp
@[simp] theorem settle_memory_storedCount : (settle s).memory.storedCount = s.memory.storedCount := by
  unfold settle; simp
@[simp] theorem settle_memory_staging : (settle s).memory.staging = s.memory.staging := by
  unfold settle; simp
@[simp] theorem settle_memory_owed : (settle s).memory.owed = s.memory.owed := by
  unfold settle; simp
@[simp] theorem settle_memory_refreshTimer : (settle s).memory.refreshTimer = s.memory.refreshTimer := by
  unfold settle; simp
@[simp] theorem settle_memory_thermal : (settle s).memory.thermal = s.memory.thermal := by
  unfold settle; simp
@[simp] theorem settle_memory_selfRefresh : (settle s).memory.selfRefresh = s.memory.selfRefresh := by
  unfold settle; simp
@[simp] theorem settle_spine_ownAddress : (settle s).spine.ownAddress = s.spine.ownAddress := by
  unfold settle; simp
@[simp] theorem settle_spine_strapSample : (settle s).spine.strapSample = s.spine.strapSample := by
  unfold settle; simp
@[simp] theorem settle_spine_input : (settle s).spine.input = s.spine.input := by
  unfold settle; simp
@[simp] theorem settle_spine_transit : (settle s).spine.transit = s.spine.transit := by
  unfold settle; simp
@[simp] theorem settle_spine_hold : (settle s).spine.hold = s.spine.hold := by
  unfold settle; simp
@[simp] theorem settle_spine_lastSent : (settle s).spine.lastSent = s.spine.lastSent := by
  unfold settle; simp
@[simp] theorem settle_faults_mode : (settle s).faults.mode = s.faults.mode := by
  unfold settle; simp
@[simp] theorem settle_faults_alertMask : (settle s).faults.alertMask = s.faults.alertMask := by
  unfold settle; simp
@[simp] theorem settle_counters_staged : (settle s).counters.staged = s.counters.staged := by
  unfold settle; simp
@[simp] theorem settle_counters_gapSamples : (settle s).counters.gapSamples = s.counters.gapSamples := by
  unfold settle; simp
@[simp] theorem settle_counters_lateRefresh : (settle s).counters.lateRefresh = s.counters.lateRefresh := by
  unfold settle; simp
@[simp] theorem settle_counters_corrected : (settle s).counters.corrected = s.counters.corrected := by
  unfold settle; simp
@[simp] theorem settle_counters_uncorrectable : (settle s).counters.uncorrectable = s.counters.uncorrectable := by
  unfold settle; simp
@[simp] theorem settle_counters_suppressed : (settle s).counters.suppressed = s.counters.suppressed := by
  unfold settle; simp
@[simp] theorem settle_counters_overflow : (settle s).counters.overflow = s.counters.overflow := by
  unfold settle; simp
@[simp] theorem settle_counters_checkError : (settle s).counters.checkError = s.counters.checkError := by
  unfold settle; simp
@[simp] theorem settle_counters_orphan : (settle s).counters.orphan = s.counters.orphan := by
  unfold settle; simp
@[simp] theorem settle_counters_unclaimed : (settle s).counters.unclaimed = s.counters.unclaimed := by
  unfold settle; simp
@[simp] theorem settle_station_config : (settle s).station.config = s.station.config := by
  unfold settle; simp
@[simp] theorem settle_station_startCount : (settle s).station.startCount = s.station.startCount := by
  unfold settle; simp
@[simp] theorem settle_station_capturedTag : (settle s).station.capturedTag = s.station.capturedTag := by
  unfold settle; simp
@[simp] theorem settle_station_incarnation : (settle s).station.incarnation = s.station.incarnation := by
  unfold settle; simp
@[simp] theorem settle_station_lastRejection : (settle s).station.lastRejection = s.station.lastRejection := by
  unfold settle; simp
@[simp] theorem settle_station_deviceNumber : (settle s).station.deviceNumber = s.station.deviceNumber := by
  unfold settle; simp

/-- A frame placed joins behind the frames that wait (R122). -/
theorem placeFrame_prefix (segOrigin : Byte) (segSeq : BitVec 16) (body : FrameBody) :
    s.spine.frames <+: (placeFrame segOrigin segSeq body s).spine.frames := by simp

theorem takeDueFrame_prefix (due : DueFrame) : s.spine.frames <+: (takeDueFrame due s).spine.frames := by
  cases due <;> simp [takeDueFrame, placeTrailer, placeGap]

theorem considerFrames_prefix (fuel : Nat) : s.spine.frames <+: (considerFrames fuel s).spine.frames := by
  induction fuel generalizing s with
  | zero => exact List.prefix_rfl
  | succ n ih =>
    unfold considerFrames
    split
    · exact List.prefix_rfl
    · exact (takeDueFrame_prefix s _).trans (ih _)

theorem placeMemoryGap_prefix : s.spine.frames <+: (placeMemoryGap s).spine.frames := by
  unfold placeMemoryGap
  split
  · split
    · simp
    · exact List.prefix_rfl
  · exact List.prefix_rfl
  · exact List.prefix_rfl

theorem settle_prefix : s.spine.frames <+: (settle s).spine.frames := by
  unfold settle
  rw [completeFlush_spine]
  exact (placeMemoryGap_prefix s).trans (considerFrames_prefix _ _)

/-- A chain of considerations that finds nothing due changes nothing (R93). -/
theorem considerFrames_none (fuel : Nat) (h : chooseFrame s = none) : considerFrames fuel s = s := by
  cases fuel with
  | zero => rfl
  | succ n => unfold considerFrames; rw [h]

/-- Nothing is due while the frame part is full (R93). -/
theorem chooseFrame_full (h : Config.frameSlots ≤ s.spine.frames.length) : chooseFrame s = none := by
  unfold chooseFrame
  split
  · rfl
  · rw [if_neg]; omega

/-- Nothing is due while no segment is live (R93). -/
theorem chooseFrame_noSegment (h : s.table.live = []) : chooseFrame s = none := by
  unfold chooseFrame; rw [h]

/-- Nothing is due while the assembler is not IDLE (R93). -/
theorem chooseFrame_busy (h : s.assembler.phase ≠ .idle) : chooseFrame s = none := by
  unfold chooseFrame
  split
  · rfl
  · rw [if_neg]; simp [h]

/-- No MEMORY gap is placed while none is pending (R112). -/
theorem placeMemoryGap_idle (h : ∀ g, s.assembler.phase ≠ .pending g) : placeMemoryGap s = s := by
  unfold placeMemoryGap
  split
  · next g e => exact absurd e (h g)
  · rfl
  · rfl

/-- The flush completion takes place in FLUSH alone (R166). -/
theorem completeFlush_phase (h : s.station.phase ≠ .flush) : completeFlush s = s := by
  unfold completeFlush; rw [if_neg]; simp [h]

/-! ### Completion -/

@[simp] theorem releaseThrough_intake (last n : Nat) : (releaseThrough last n s).intake = s.intake := by
  induction n generalizing s with
  | zero => rfl
  | succ n ih =>
    unfold releaseThrough
    split
    · split
      · simp [ih]
      · rfl
    · rfl
@[simp] theorem releaseThrough_gaps (last n : Nat) : (releaseThrough last n s).gaps = s.gaps := by
  induction n generalizing s with
  | zero => rfl
  | succ n ih =>
    unfold releaseThrough
    split
    · split
      · simp [ih]
      · rfl
    · rfl
@[simp] theorem releaseThrough_markers (last n : Nat) : (releaseThrough last n s).markers = s.markers := by
  induction n generalizing s with
  | zero => rfl
  | succ n ih =>
    unfold releaseThrough
    split
    · split
      · simp [ih]
      · rfl
    · rfl
@[simp] theorem releaseThrough_table (last n : Nat) : (releaseThrough last n s).table = s.table := by
  induction n generalizing s with
  | zero => rfl
  | succ n ih =>
    unfold releaseThrough
    split
    · split
      · simp [ih]
      · rfl
    · rfl
@[simp] theorem releaseThrough_assembler (last n : Nat) : (releaseThrough last n s).assembler = s.assembler := by
  induction n generalizing s with
  | zero => rfl
  | succ n ih =>
    unfold releaseThrough
    split
    · split
      · simp [ih]
      · rfl
    · rfl
@[simp] theorem releaseThrough_spine (last n : Nat) : (releaseThrough last n s).spine = s.spine := by
  induction n generalizing s with
  | zero => rfl
  | succ n ih =>
    unfold releaseThrough
    split
    · split
      · simp [ih]
      · rfl
    · rfl
@[simp] theorem releaseThrough_presence (last n : Nat) : (releaseThrough last n s).presence = s.presence := by
  induction n generalizing s with
  | zero => rfl
  | succ n ih =>
    unfold releaseThrough
    split
    · split
      · simp [ih]
      · rfl
    · rfl
@[simp] theorem releaseThrough_station (last n : Nat) : (releaseThrough last n s).station = s.station := by
  induction n generalizing s with
  | zero => rfl
  | succ n ih =>
    unfold releaseThrough
    split
    · split
      · simp [ih]
      · rfl
    · rfl
@[simp] theorem releaseThrough_port (last n : Nat) : (releaseThrough last n s).port = s.port := by
  induction n generalizing s with
  | zero => rfl
  | succ n ih =>
    unfold releaseThrough
    split
    · split
      · simp [ih]
      · rfl
    · rfl
@[simp] theorem releaseThrough_faults (last n : Nat) : (releaseThrough last n s).faults = s.faults := by
  induction n generalizing s with
  | zero => rfl
  | succ n ih =>
    unfold releaseThrough
    split
    · split
      · simp [ih]
      · rfl
    · rfl
@[simp] theorem releaseThrough_counters (last n : Nat) : (releaseThrough last n s).counters = s.counters := by
  induction n generalizing s with
  | zero => rfl
  | succ n ih =>
    unfold releaseThrough
    split
    · split
      · simp [ih]
      · rfl
    · rfl
@[simp] theorem releaseThrough_resetHeld (last n : Nat) : (releaseThrough last n s).resetHeld = s.resetHeld := by
  induction n generalizing s with
  | zero => rfl
  | succ n ih =>
    unfold releaseThrough
    split
    · split
      · simp [ih]
      · rfl
    · rfl
@[simp] theorem releaseThrough_pending (last n : Nat) : (releaseThrough last n s).pending = s.pending := by
  induction n generalizing s with
  | zero => rfl
  | succ n ih =>
    unfold releaseThrough
    split
    · split
      · simp [ih]
      · rfl
    · rfl
@[simp] theorem releaseThrough_memory_dram (last n : Nat) : (releaseThrough last n s).memory.dram = s.memory.dram := by
  induction n generalizing s with
  | zero => rfl
  | succ n ih =>
    unfold releaseThrough
    split
    · split
      · simp [ih]
      · rfl
    · rfl
@[simp] theorem releaseThrough_memory_writeSlot (last n : Nat) : (releaseThrough last n s).memory.writeSlot = s.memory.writeSlot := by
  induction n generalizing s with
  | zero => rfl
  | succ n ih =>
    unfold releaseThrough
    split
    · split
      · simp [ih]
      · rfl
    · rfl
@[simp] theorem releaseThrough_memory_staging (last n : Nat) : (releaseThrough last n s).memory.staging = s.memory.staging := by
  induction n generalizing s with
  | zero => rfl
  | succ n ih =>
    unfold releaseThrough
    split
    · split
      · simp [ih]
      · rfl
    · rfl
@[simp] theorem releaseThrough_memory_owed (last n : Nat) : (releaseThrough last n s).memory.owed = s.memory.owed := by
  induction n generalizing s with
  | zero => rfl
  | succ n ih =>
    unfold releaseThrough
    split
    · split
      · simp [ih]
      · rfl
    · rfl
@[simp] theorem releaseThrough_memory_refreshTimer (last n : Nat) : (releaseThrough last n s).memory.refreshTimer = s.memory.refreshTimer := by
  induction n generalizing s with
  | zero => rfl
  | succ n ih =>
    unfold releaseThrough
    split
    · split
      · simp [ih]
      · rfl
    · rfl
@[simp] theorem releaseThrough_memory_thermal (last n : Nat) : (releaseThrough last n s).memory.thermal = s.memory.thermal := by
  induction n generalizing s with
  | zero => rfl
  | succ n ih =>
    unfold releaseThrough
    split
    · split
      · simp [ih]
      · rfl
    · rfl
@[simp] theorem releaseThrough_memory_selfRefresh (last n : Nat) : (releaseThrough last n s).memory.selfRefresh = s.memory.selfRefresh := by
  induction n generalizing s with
  | zero => rfl
  | succ n ih =>
    unfold releaseThrough
    split
    · split
      · simp [ih]
      · rfl
    · rfl
@[simp] theorem releaseThrough_memory_readRequest (last n : Nat) : (releaseThrough last n s).memory.readRequest = s.memory.readRequest := by
  induction n generalizing s with
  | zero => rfl
  | succ n ih =>
    unfold releaseThrough
    split
    · split
      · simp [ih]
      · rfl
    · rfl
@[simp] theorem releaseThrough_memory_op (last n : Nat) : (releaseThrough last n s).memory.op = s.memory.op := by
  induction n generalizing s with
  | zero => rfl
  | succ n ih =>
    unfold releaseThrough
    split
    · split
      · simp [ih]
      · rfl
    · rfl
@[simp] theorem completeData_intake (w : WorkingCopy) : (completeData w s).intake = s.intake := by
  unfold completeData; simp
@[simp] theorem completeData_gaps (w : WorkingCopy) : (completeData w s).gaps = s.gaps := by
  unfold completeData; simp
@[simp] theorem completeData_markers (w : WorkingCopy) : (completeData w s).markers = s.markers := by
  unfold completeData; simp
@[simp] theorem completeData_presence (w : WorkingCopy) : (completeData w s).presence = s.presence := by
  unfold completeData; simp
@[simp] theorem completeData_station (w : WorkingCopy) : (completeData w s).station = s.station := by
  unfold completeData; simp
@[simp] theorem completeData_port (w : WorkingCopy) : (completeData w s).port = s.port := by
  unfold completeData; simp
@[simp] theorem completeData_faults (w : WorkingCopy) : (completeData w s).faults = s.faults := by
  unfold completeData; simp
@[simp] theorem completeData_counters (w : WorkingCopy) : (completeData w s).counters = s.counters := by
  unfold completeData; simp
@[simp] theorem completeData_resetHeld (w : WorkingCopy) : (completeData w s).resetHeld = s.resetHeld := by
  unfold completeData; simp
@[simp] theorem completeData_pending (w : WorkingCopy) : (completeData w s).pending = s.pending := by
  unfold completeData; simp
@[simp] theorem completeData_memory_dram (w : WorkingCopy) : (completeData w s).memory.dram = s.memory.dram := by
  unfold completeData; simp
@[simp] theorem completeData_memory_writeSlot (w : WorkingCopy) : (completeData w s).memory.writeSlot = s.memory.writeSlot := by
  unfold completeData; simp
@[simp] theorem completeData_memory_staging (w : WorkingCopy) : (completeData w s).memory.staging = s.memory.staging := by
  unfold completeData; simp
@[simp] theorem completeData_memory_owed (w : WorkingCopy) : (completeData w s).memory.owed = s.memory.owed := by
  unfold completeData; simp
@[simp] theorem completeData_memory_refreshTimer (w : WorkingCopy) : (completeData w s).memory.refreshTimer = s.memory.refreshTimer := by
  unfold completeData; simp
@[simp] theorem completeData_memory_thermal (w : WorkingCopy) : (completeData w s).memory.thermal = s.memory.thermal := by
  unfold completeData; simp
@[simp] theorem completeData_memory_selfRefresh (w : WorkingCopy) : (completeData w s).memory.selfRefresh = s.memory.selfRefresh := by
  unfold completeData; simp
@[simp] theorem completeData_memory_readRequest (w : WorkingCopy) : (completeData w s).memory.readRequest = s.memory.readRequest := by
  unfold completeData; simp
@[simp] theorem completeData_memory_op (w : WorkingCopy) : (completeData w s).memory.op = s.memory.op := by
  unfold completeData; simp
@[simp] theorem completeData_spine_ownAddress (w : WorkingCopy) : (completeData w s).spine.ownAddress = s.spine.ownAddress := by
  unfold completeData; simp
@[simp] theorem completeData_spine_strapSample (w : WorkingCopy) : (completeData w s).spine.strapSample = s.spine.strapSample := by
  unfold completeData; simp
@[simp] theorem completeData_spine_input (w : WorkingCopy) : (completeData w s).spine.input = s.spine.input := by
  unfold completeData; simp
@[simp] theorem completeData_spine_transit (w : WorkingCopy) : (completeData w s).spine.transit = s.spine.transit := by
  unfold completeData; simp
@[simp] theorem completeData_spine_hold (w : WorkingCopy) : (completeData w s).spine.hold = s.spine.hold := by
  unfold completeData; simp
@[simp] theorem completeData_spine_lastSent (w : WorkingCopy) : (completeData w s).spine.lastSent = s.spine.lastSent := by
  unfold completeData; simp
@[simp] theorem completeData_assembler_drain (w : WorkingCopy) : (completeData w s).assembler.drain = s.assembler.drain := by
  unfold completeData; simp
@[simp] theorem completeData_assembler_phase (w : WorkingCopy) : (completeData w s).assembler.phase = s.assembler.phase := by
  unfold completeData; simp
@[simp] theorem completeData_table_queue (w : WorkingCopy) : (completeData w s).table.queue = s.table.queue := by
  unfold completeData; simp
@[simp] theorem completeData_table_head (w : WorkingCopy) : (completeData w s).table.head = s.table.head := by
  unfold completeData; simp
@[simp] theorem takeBlock_intake (w : WorkingCopy) (b : Block) : (takeBlock w b s).intake = s.intake := by
  unfold takeBlock; simp only []; split <;> simp
@[simp] theorem takeBlock_gaps (w : WorkingCopy) (b : Block) : (takeBlock w b s).gaps = s.gaps := by
  unfold takeBlock; simp only []; split <;> simp
@[simp] theorem takeBlock_markers (w : WorkingCopy) (b : Block) : (takeBlock w b s).markers = s.markers := by
  unfold takeBlock; simp only []; split <;> simp
@[simp] theorem takeBlock_presence (w : WorkingCopy) (b : Block) : (takeBlock w b s).presence = s.presence := by
  unfold takeBlock; simp only []; split <;> simp
@[simp] theorem takeBlock_station (w : WorkingCopy) (b : Block) : (takeBlock w b s).station = s.station := by
  unfold takeBlock; simp only []; split <;> simp
@[simp] theorem takeBlock_port (w : WorkingCopy) (b : Block) : (takeBlock w b s).port = s.port := by
  unfold takeBlock; simp only []; split <;> simp
@[simp] theorem takeBlock_faults (w : WorkingCopy) (b : Block) : (takeBlock w b s).faults = s.faults := by
  unfold takeBlock; simp only []; split <;> simp
@[simp] theorem takeBlock_counters (w : WorkingCopy) (b : Block) : (takeBlock w b s).counters = s.counters := by
  unfold takeBlock; simp only []; split <;> simp
@[simp] theorem takeBlock_resetHeld (w : WorkingCopy) (b : Block) : (takeBlock w b s).resetHeld = s.resetHeld := by
  unfold takeBlock; simp only []; split <;> simp
@[simp] theorem takeBlock_pending (w : WorkingCopy) (b : Block) : (takeBlock w b s).pending = s.pending := by
  unfold takeBlock; simp only []; split <;> simp
@[simp] theorem takeBlock_memory_dram (w : WorkingCopy) (b : Block) : (takeBlock w b s).memory.dram = s.memory.dram := by
  unfold takeBlock; simp only []; split <;> simp
@[simp] theorem takeBlock_memory_writeSlot (w : WorkingCopy) (b : Block) : (takeBlock w b s).memory.writeSlot = s.memory.writeSlot := by
  unfold takeBlock; simp only []; split <;> simp
@[simp] theorem takeBlock_memory_staging (w : WorkingCopy) (b : Block) : (takeBlock w b s).memory.staging = s.memory.staging := by
  unfold takeBlock; simp only []; split <;> simp
@[simp] theorem takeBlock_memory_owed (w : WorkingCopy) (b : Block) : (takeBlock w b s).memory.owed = s.memory.owed := by
  unfold takeBlock; simp only []; split <;> simp
@[simp] theorem takeBlock_memory_refreshTimer (w : WorkingCopy) (b : Block) : (takeBlock w b s).memory.refreshTimer = s.memory.refreshTimer := by
  unfold takeBlock; simp only []; split <;> simp
@[simp] theorem takeBlock_memory_thermal (w : WorkingCopy) (b : Block) : (takeBlock w b s).memory.thermal = s.memory.thermal := by
  unfold takeBlock; simp only []; split <;> simp
@[simp] theorem takeBlock_memory_selfRefresh (w : WorkingCopy) (b : Block) : (takeBlock w b s).memory.selfRefresh = s.memory.selfRefresh := by
  unfold takeBlock; simp only []; split <;> simp
@[simp] theorem takeBlock_memory_op (w : WorkingCopy) (b : Block) : (takeBlock w b s).memory.op = s.memory.op := by
  unfold takeBlock; simp only []; split <;> simp
@[simp] theorem takeBlock_spine_ownAddress (w : WorkingCopy) (b : Block) : (takeBlock w b s).spine.ownAddress = s.spine.ownAddress := by
  unfold takeBlock; simp only []; split <;> simp
@[simp] theorem takeBlock_spine_strapSample (w : WorkingCopy) (b : Block) : (takeBlock w b s).spine.strapSample = s.spine.strapSample := by
  unfold takeBlock; simp only []; split <;> simp
@[simp] theorem takeBlock_spine_input (w : WorkingCopy) (b : Block) : (takeBlock w b s).spine.input = s.spine.input := by
  unfold takeBlock; simp only []; split <;> simp
@[simp] theorem takeBlock_spine_transit (w : WorkingCopy) (b : Block) : (takeBlock w b s).spine.transit = s.spine.transit := by
  unfold takeBlock; simp only []; split <;> simp
@[simp] theorem takeBlock_spine_hold (w : WorkingCopy) (b : Block) : (takeBlock w b s).spine.hold = s.spine.hold := by
  unfold takeBlock; simp only []; split <;> simp
@[simp] theorem takeBlock_spine_lastSent (w : WorkingCopy) (b : Block) : (takeBlock w b s).spine.lastSent = s.spine.lastSent := by
  unfold takeBlock; simp only []; split <;> simp
@[simp] theorem takeBlock_assembler_drain (w : WorkingCopy) (b : Block) : (takeBlock w b s).assembler.drain = s.assembler.drain := by
  unfold takeBlock; simp only []; split <;> simp
@[simp] theorem takeBlock_table_queue (w : WorkingCopy) (b : Block) : (takeBlock w b s).table.queue = s.table.queue := by
  unfold takeBlock; simp only []; split <;> simp
@[simp] theorem takeBlock_table_head (w : WorkingCopy) (b : Block) : (takeBlock w b s).table.head = s.table.head := by
  unfold takeBlock; simp only []; split <;> simp
@[simp] theorem truncateFrame_intake (w : WorkingCopy) (b : Block) : (truncateFrame w b s).intake = s.intake := by
  unfold truncateFrame; simp only []; (split <;> split) <;> simp
@[simp] theorem truncateFrame_gaps (w : WorkingCopy) (b : Block) : (truncateFrame w b s).gaps = s.gaps := by
  unfold truncateFrame; simp only []; (split <;> split) <;> simp
@[simp] theorem truncateFrame_markers (w : WorkingCopy) (b : Block) : (truncateFrame w b s).markers = s.markers := by
  unfold truncateFrame; simp only []; (split <;> split) <;> simp
@[simp] theorem truncateFrame_presence (w : WorkingCopy) (b : Block) : (truncateFrame w b s).presence = s.presence := by
  unfold truncateFrame; simp only []; (split <;> split) <;> simp
@[simp] theorem truncateFrame_station (w : WorkingCopy) (b : Block) : (truncateFrame w b s).station = s.station := by
  unfold truncateFrame; simp only []; (split <;> split) <;> simp
@[simp] theorem truncateFrame_port (w : WorkingCopy) (b : Block) : (truncateFrame w b s).port = s.port := by
  unfold truncateFrame; simp only []; (split <;> split) <;> simp
@[simp] theorem truncateFrame_resetHeld (w : WorkingCopy) (b : Block) : (truncateFrame w b s).resetHeld = s.resetHeld := by
  unfold truncateFrame; simp only []; (split <;> split) <;> simp
@[simp] theorem truncateFrame_pending (w : WorkingCopy) (b : Block) : (truncateFrame w b s).pending = s.pending := by
  unfold truncateFrame; simp only []; (split <;> split) <;> simp
@[simp] theorem truncateFrame_memory_dram (w : WorkingCopy) (b : Block) : (truncateFrame w b s).memory.dram = s.memory.dram := by
  unfold truncateFrame; simp only []; (split <;> split) <;> simp
@[simp] theorem truncateFrame_memory_writeSlot (w : WorkingCopy) (b : Block) : (truncateFrame w b s).memory.writeSlot = s.memory.writeSlot := by
  unfold truncateFrame; simp only []; (split <;> split) <;> simp
@[simp] theorem truncateFrame_memory_staging (w : WorkingCopy) (b : Block) : (truncateFrame w b s).memory.staging = s.memory.staging := by
  unfold truncateFrame; simp only []; (split <;> split) <;> simp
@[simp] theorem truncateFrame_memory_owed (w : WorkingCopy) (b : Block) : (truncateFrame w b s).memory.owed = s.memory.owed := by
  unfold truncateFrame; simp only []; (split <;> split) <;> simp
@[simp] theorem truncateFrame_memory_refreshTimer (w : WorkingCopy) (b : Block) : (truncateFrame w b s).memory.refreshTimer = s.memory.refreshTimer := by
  unfold truncateFrame; simp only []; (split <;> split) <;> simp
@[simp] theorem truncateFrame_memory_thermal (w : WorkingCopy) (b : Block) : (truncateFrame w b s).memory.thermal = s.memory.thermal := by
  unfold truncateFrame; simp only []; (split <;> split) <;> simp
@[simp] theorem truncateFrame_memory_selfRefresh (w : WorkingCopy) (b : Block) : (truncateFrame w b s).memory.selfRefresh = s.memory.selfRefresh := by
  unfold truncateFrame; simp only []; (split <;> split) <;> simp
@[simp] theorem truncateFrame_memory_readRequest (w : WorkingCopy) (b : Block) : (truncateFrame w b s).memory.readRequest = s.memory.readRequest := by
  unfold truncateFrame; simp only []; (split <;> split) <;> simp
@[simp] theorem truncateFrame_memory_op (w : WorkingCopy) (b : Block) : (truncateFrame w b s).memory.op = s.memory.op := by
  unfold truncateFrame; simp only []; (split <;> split) <;> simp
@[simp] theorem truncateFrame_spine_ownAddress (w : WorkingCopy) (b : Block) : (truncateFrame w b s).spine.ownAddress = s.spine.ownAddress := by
  unfold truncateFrame; simp only []; (split <;> split) <;> simp
@[simp] theorem truncateFrame_spine_strapSample (w : WorkingCopy) (b : Block) : (truncateFrame w b s).spine.strapSample = s.spine.strapSample := by
  unfold truncateFrame; simp only []; (split <;> split) <;> simp
@[simp] theorem truncateFrame_spine_input (w : WorkingCopy) (b : Block) : (truncateFrame w b s).spine.input = s.spine.input := by
  unfold truncateFrame; simp only []; (split <;> split) <;> simp
@[simp] theorem truncateFrame_spine_transit (w : WorkingCopy) (b : Block) : (truncateFrame w b s).spine.transit = s.spine.transit := by
  unfold truncateFrame; simp only []; (split <;> split) <;> simp
@[simp] theorem truncateFrame_spine_hold (w : WorkingCopy) (b : Block) : (truncateFrame w b s).spine.hold = s.spine.hold := by
  unfold truncateFrame; simp only []; (split <;> split) <;> simp
@[simp] theorem truncateFrame_spine_lastSent (w : WorkingCopy) (b : Block) : (truncateFrame w b s).spine.lastSent = s.spine.lastSent := by
  unfold truncateFrame; simp only []; (split <;> split) <;> simp
@[simp] theorem truncateFrame_faults_mode (w : WorkingCopy) (b : Block) : (truncateFrame w b s).faults.mode = s.faults.mode := by
  unfold truncateFrame; simp only []; (split <;> split) <;> simp
@[simp] theorem truncateFrame_faults_alertMask (w : WorkingCopy) (b : Block) : (truncateFrame w b s).faults.alertMask = s.faults.alertMask := by
  unfold truncateFrame; simp only []; (split <;> split) <;> simp
@[simp] theorem truncateFrame_counters_staged (w : WorkingCopy) (b : Block) : (truncateFrame w b s).counters.staged = s.counters.staged := by
  unfold truncateFrame; simp only []; (split <;> split) <;> simp
@[simp] theorem truncateFrame_counters_gapSamples (w : WorkingCopy) (b : Block) : (truncateFrame w b s).counters.gapSamples = s.counters.gapSamples := by
  unfold truncateFrame; simp only []; (split <;> split) <;> simp
@[simp] theorem truncateFrame_counters_lateRefresh (w : WorkingCopy) (b : Block) : (truncateFrame w b s).counters.lateRefresh = s.counters.lateRefresh := by
  unfold truncateFrame; simp only []; (split <;> split) <;> simp
@[simp] theorem truncateFrame_counters_corrected (w : WorkingCopy) (b : Block) : (truncateFrame w b s).counters.corrected = s.counters.corrected := by
  unfold truncateFrame; simp only []; (split <;> split) <;> simp
@[simp] theorem truncateFrame_counters_uncorrectable (w : WorkingCopy) (b : Block) : (truncateFrame w b s).counters.uncorrectable = s.counters.uncorrectable := by
  unfold truncateFrame; simp only []; (split <;> split) <;> simp
@[simp] theorem truncateFrame_counters_suppressed (w : WorkingCopy) (b : Block) : (truncateFrame w b s).counters.suppressed = s.counters.suppressed := by
  unfold truncateFrame; simp only []; (split <;> split) <;> simp
@[simp] theorem truncateFrame_counters_overflow (w : WorkingCopy) (b : Block) : (truncateFrame w b s).counters.overflow = s.counters.overflow := by
  unfold truncateFrame; simp only []; (split <;> split) <;> simp
@[simp] theorem truncateFrame_counters_checkError (w : WorkingCopy) (b : Block) : (truncateFrame w b s).counters.checkError = s.counters.checkError := by
  unfold truncateFrame; simp only []; (split <;> split) <;> simp
@[simp] theorem truncateFrame_counters_orphan (w : WorkingCopy) (b : Block) : (truncateFrame w b s).counters.orphan = s.counters.orphan := by
  unfold truncateFrame; simp only []; (split <;> split) <;> simp
@[simp] theorem truncateFrame_counters_unclaimed (w : WorkingCopy) (b : Block) : (truncateFrame w b s).counters.unclaimed = s.counters.unclaimed := by
  unfold truncateFrame; simp only []; (split <;> split) <;> simp
@[simp] theorem truncateFrame_counters_forcedRefresh (w : WorkingCopy) (b : Block) : (truncateFrame w b s).counters.forcedRefresh = s.counters.forcedRefresh := by
  unfold truncateFrame; simp only []; (split <;> split) <;> simp
@[simp] theorem truncateFrame_table_head (w : WorkingCopy) (b : Block) : (truncateFrame w b s).table.head = s.table.head := by
  unfold truncateFrame; simp only []; (split <;> split) <;> simp

/-- A release never adds a stored block (R25). -/
theorem releaseThrough_storedCount (last n : Nat) :
    (releaseThrough last n s).memory.storedCount ≤ s.memory.storedCount := by
  induction n generalizing s with
  | zero => exact Nat.le_refl _
  | succ n ih =>
    unfold releaseThrough
    split
    · split
      · exact Nat.le_trans (ih _) (Nat.sub_le _ _)
      · exact Nat.le_refl _
    · exact Nat.le_refl _

end Sys2Proof.Machine
end

