-- ==== Sys2Proof/Laws/Events.lean ====
section
/-! SUPPORT. Events: what a report and a settling reach, and the outcome of a command in each case (R93, R166, R169,
R175 to R177). -/

namespace Sys2Proof.Machine

variable (s : State)

@[simp] theorem report_intake (before after : State) : (report before after).intake = after.intake := by
  unfold report; split <;> rfl
@[simp] theorem report_memory (before after : State) : (report before after).memory = after.memory := by
  unfold report; split <;> rfl
@[simp] theorem report_gaps (before after : State) : (report before after).gaps = after.gaps := by
  unfold report; split <;> rfl
@[simp] theorem report_markers (before after : State) : (report before after).markers = after.markers := by
  unfold report; split <;> rfl
@[simp] theorem report_table (before after : State) : (report before after).table = after.table := by
  unfold report; split <;> rfl
@[simp] theorem report_assembler (before after : State) : (report before after).assembler = after.assembler := by
  unfold report; split <;> rfl
@[simp] theorem report_spine (before after : State) : (report before after).spine = after.spine := by
  unfold report; split <;> rfl
@[simp] theorem report_presence (before after : State) : (report before after).presence = after.presence := by
  unfold report; split <;> rfl
@[simp] theorem report_station (before after : State) : (report before after).station = after.station := by
  unfold report; split <;> rfl
@[simp] theorem report_port (before after : State) : (report before after).port = after.port := by
  unfold report; split <;> rfl
@[simp] theorem report_counters (before after : State) : (report before after).counters = after.counters := by
  unfold report; split <;> rfl
@[simp] theorem report_resetHeld (before after : State) : (report before after).resetHeld = after.resetHeld := by
  unfold report; split <;> rfl
@[simp] theorem report_pending (before after : State) : (report before after).pending = after.pending := by
  unfold report; split <;> rfl
@[simp] theorem report_faults_mode (before after : State) : (report before after).faults.mode = after.faults.mode := by
  unfold report; split <;> rfl
@[simp] theorem report_faults_alertMask (before after : State) : (report before after).faults.alertMask = after.faults.alertMask := by
  unfold report; split <;> rfl

/-- In LATCHED mode a report sets the flags of the conditions that begin (R176). -/
theorem report_latched (before after : State) (h : after.faults.mode = .latched) :
    (report before after).faults = after.faults.raise (begun before after) := by
  unfold report; rw [h]

/-- In LIVE mode the condition flags become the conditions (R177). -/
theorem report_live (before after : State) (h : after.faults.mode = .live) :
    (report before after).faults.flags = (after.faults.flags &&& ~~~conditionFlags) ||| after.conditions := by
  unfold report; rw [h]

theorem or_and_zero (x y z : BitVec 24) (hx : x &&& z = 0) (hy : y &&& z = 0) : (x ||| y) &&& z = 0 := by
  ext i hi
  have h1 : (x &&& z)[i] = (0 : BitVec 24)[i] := by rw [hx]
  have h2 : (y &&& z)[i] = (0 : BitVec 24)[i] := by rw [hy]
  simp only [BitVec.getElem_and, BitVec.getElem_or, BitVec.ofNat_eq_ofNat, BitVec.getElem_zero] at h1 h2 ⊢
  revert h1 h2
  cases x[i] <;> cases y[i] <;> cases z[i] <;> simp

/-- Every condition is a condition flag's (R175). -/
theorem conditions_are_condition_flags : s.conditions &&& ~~~conditionFlags = 0 := by
  unfold State.conditions
  repeat' apply or_and_zero
  all_goals (unfold Flag.mask; split <;> rfl)

/-- A report of nothing changes nothing. -/
theorem raise_zero (m : FaultMonitor) : m.raise 0 = m := by
  cases m with
  | mk f md cl am =>
    have h : ∀ x : BitVec 24, x &&& ~~~0 = x := by
      intro x
      ext i hi
      simp only [BitVec.getElem_and, BitVec.getElem_not, BitVec.ofNat_eq_ofNat, BitVec.getElem_zero]
      simp
    cases cl with
    | none => simp [FaultMonitor.raise]
    | some w => simp only [FaultMonitor.raise, Option.map_some, h]; simp

/-- A report with no condition changed, in a station whose flags follow its conditions, changes nothing. -/
theorem report_quiet (before after : State) (hc : after.conditions = before.conditions) (hf : after.flagsFollow) :
    report before after = after := by
  have hb : begun before after = 0 := by unfold begun; rw [hc]; simp
  unfold report
  split
  · rw [hb, raise_zero]
  · next e =>
    have h2 := hf.2 e
    have h3 : (after.faults.flags &&& ~~~conditionFlags) ||| after.conditions = after.faults.flags := by
      rw [← h2]
      ext i hi
      simp only [BitVec.getElem_or, BitVec.getElem_and, BitVec.getElem_not]
      cases after.faults.flags[i] <;> cases conditionFlags[i] <;> rfl
    rw [hb, raise_zero, h3]

/-- While RESET# is asserted an event changes nothing (R169). -/
theorem event_held (before after : State) (h : before.resetHeld = true) : event before after = .next before := by
  unfold event; rw [if_pos h]

/-- Otherwise it leaves what it made, with the conditions reported (R175). -/
theorem event_free (before after : State) (h : before.resetHeld = false) :
    event before after = .next (report before after) := by
  unfold event; simp [h]

theorem drainEvent_held (before after : State) (h : before.resetHeld = true) :
    drainEvent before after = .next before := event_held _ _ h

theorem drainEvent_free (before after : State) (h : before.resetHeld = false) :
    drainEvent before after = .next (report before (settleFrom before after)) := event_free _ _ h

@[simp] theorem settleFrom_intake (before after : State) : (settleFrom before after).intake = after.intake := by
  unfold settleFrom; split <;> simp
@[simp] theorem settleFrom_markers (before after : State) : (settleFrom before after).markers = after.markers := by
  unfold settleFrom; split <;> simp
@[simp] theorem settleFrom_presence (before after : State) : (settleFrom before after).presence = after.presence := by
  unfold settleFrom; split <;> simp
@[simp] theorem settleFrom_port (before after : State) : (settleFrom before after).port = after.port := by
  unfold settleFrom; split <;> simp
@[simp] theorem settleFrom_resetHeld (before after : State) : (settleFrom before after).resetHeld = after.resetHeld := by
  unfold settleFrom; split <;> simp
@[simp] theorem settleFrom_pending (before after : State) : (settleFrom before after).pending = after.pending := by
  unfold settleFrom; split <;> simp
@[simp] theorem settleFrom_memory_dram (before after : State) :
    (settleFrom before after).memory.dram = after.memory.dram := by
  unfold settleFrom; split <;> simp
@[simp] theorem settleFrom_memory_writeSlot (before after : State) :
    (settleFrom before after).memory.writeSlot = after.memory.writeSlot := by
  unfold settleFrom; split <;> simp
@[simp] theorem settleFrom_memory_drainSlot (before after : State) :
    (settleFrom before after).memory.drainSlot = after.memory.drainSlot := by
  unfold settleFrom; split <;> simp
@[simp] theorem settleFrom_memory_storedCount (before after : State) :
    (settleFrom before after).memory.storedCount = after.memory.storedCount := by
  unfold settleFrom; split <;> simp
@[simp] theorem settleFrom_memory_staging (before after : State) :
    (settleFrom before after).memory.staging = after.memory.staging := by
  unfold settleFrom; split <;> simp
@[simp] theorem settleFrom_memory_owed (before after : State) :
    (settleFrom before after).memory.owed = after.memory.owed := by
  unfold settleFrom; split <;> simp
@[simp] theorem settleFrom_memory_refreshTimer (before after : State) :
    (settleFrom before after).memory.refreshTimer = after.memory.refreshTimer := by
  unfold settleFrom; split <;> simp
@[simp] theorem settleFrom_memory_thermal (before after : State) :
    (settleFrom before after).memory.thermal = after.memory.thermal := by
  unfold settleFrom; split <;> simp
@[simp] theorem settleFrom_memory_selfRefresh (before after : State) :
    (settleFrom before after).memory.selfRefresh = after.memory.selfRefresh := by
  unfold settleFrom; split <;> simp
@[simp] theorem settleFrom_spine_ownAddress (before after : State) :
    (settleFrom before after).spine.ownAddress = after.spine.ownAddress := by
  unfold settleFrom; split <;> simp
@[simp] theorem settleFrom_spine_strapSample (before after : State) :
    (settleFrom before after).spine.strapSample = after.spine.strapSample := by
  unfold settleFrom; split <;> simp
@[simp] theorem settleFrom_spine_input (before after : State) :
    (settleFrom before after).spine.input = after.spine.input := by
  unfold settleFrom; split <;> simp
@[simp] theorem settleFrom_spine_transit (before after : State) :
    (settleFrom before after).spine.transit = after.spine.transit := by
  unfold settleFrom; split <;> simp
@[simp] theorem settleFrom_spine_hold (before after : State) :
    (settleFrom before after).spine.hold = after.spine.hold := by
  unfold settleFrom; split <;> simp
@[simp] theorem settleFrom_spine_lastSent (before after : State) :
    (settleFrom before after).spine.lastSent = after.spine.lastSent := by
  unfold settleFrom; split <;> simp
@[simp] theorem settleFrom_faults_mode (before after : State) :
    (settleFrom before after).faults.mode = after.faults.mode := by
  unfold settleFrom; split <;> simp
@[simp] theorem settleFrom_faults_alertMask (before after : State) :
    (settleFrom before after).faults.alertMask = after.faults.alertMask := by
  unfold settleFrom; split <;> simp
@[simp] theorem settleFrom_counters_staged (before after : State) :
    (settleFrom before after).counters.staged = after.counters.staged := by
  unfold settleFrom; split <;> simp
@[simp] theorem settleFrom_counters_gapSamples (before after : State) :
    (settleFrom before after).counters.gapSamples = after.counters.gapSamples := by
  unfold settleFrom; split <;> simp
@[simp] theorem settleFrom_counters_lateRefresh (before after : State) :
    (settleFrom before after).counters.lateRefresh = after.counters.lateRefresh := by
  unfold settleFrom; split <;> simp
@[simp] theorem settleFrom_counters_corrected (before after : State) :
    (settleFrom before after).counters.corrected = after.counters.corrected := by
  unfold settleFrom; split <;> simp
@[simp] theorem settleFrom_counters_uncorrectable (before after : State) :
    (settleFrom before after).counters.uncorrectable = after.counters.uncorrectable := by
  unfold settleFrom; split <;> simp
@[simp] theorem settleFrom_counters_suppressed (before after : State) :
    (settleFrom before after).counters.suppressed = after.counters.suppressed := by
  unfold settleFrom; split <;> simp
@[simp] theorem settleFrom_counters_overflow (before after : State) :
    (settleFrom before after).counters.overflow = after.counters.overflow := by
  unfold settleFrom; split <;> simp
@[simp] theorem settleFrom_counters_checkError (before after : State) :
    (settleFrom before after).counters.checkError = after.counters.checkError := by
  unfold settleFrom; split <;> simp
@[simp] theorem settleFrom_counters_orphan (before after : State) :
    (settleFrom before after).counters.orphan = after.counters.orphan := by
  unfold settleFrom; split <;> simp
@[simp] theorem settleFrom_counters_unclaimed (before after : State) :
    (settleFrom before after).counters.unclaimed = after.counters.unclaimed := by
  unfold settleFrom; split <;> simp
@[simp] theorem settleFrom_station_config (before after : State) :
    (settleFrom before after).station.config = after.station.config := by
  unfold settleFrom; split <;> simp
@[simp] theorem settleFrom_station_startCount (before after : State) :
    (settleFrom before after).station.startCount = after.station.startCount := by
  unfold settleFrom; split <;> simp
@[simp] theorem settleFrom_station_capturedTag (before after : State) :
    (settleFrom before after).station.capturedTag = after.station.capturedTag := by
  unfold settleFrom; split <;> simp
@[simp] theorem settleFrom_station_incarnation (before after : State) :
    (settleFrom before after).station.incarnation = after.station.incarnation := by
  unfold settleFrom; split <;> simp
@[simp] theorem settleFrom_station_lastRejection (before after : State) :
    (settleFrom before after).station.lastRejection = after.station.lastRejection := by
  unfold settleFrom; split <;> simp
@[simp] theorem settleFrom_station_deviceNumber (before after : State) :
    (settleFrom before after).station.deviceNumber = after.station.deviceNumber := by
  unfold settleFrom; split <;> simp

/-- What a settling leaves alone, once for all (R93, R112, R166). -/
theorem settleFrom_keeps (before after : State) : DrainKeeps after (settleFrom before after) where
  dram := by simp
  writeSlot := by simp
  drainSlot := by simp
  storedCount := by simp
  staging := by simp
  owed := by simp
  refreshTimer := by simp
  thermal := by simp
  selfRefresh := by simp
  ownAddress := by simp
  strapSample := by simp
  input := by simp
  transit := by simp
  hold := by simp
  lastSent := by simp
  frames := by unfold settleFrom; split; exacts [List.prefix_rfl, settle_prefix _]
  config := by simp
  startCount := by simp
  capturedTag := by simp
  incarnation := by simp
  lastRejection := by simp
  deviceNumber := by simp
  mode := by simp
  alertMask := by simp

/-- A report leaves everything a settling leaves alone. -/
theorem report_keeps (before after : State) : DrainKeeps after (report before after) where
  dram := by simp
  writeSlot := by simp
  drainSlot := by simp
  storedCount := by simp
  staging := by simp
  owed := by simp
  refreshTimer := by simp
  thermal := by simp
  selfRefresh := by simp
  ownAddress := by simp
  strapSample := by simp
  input := by simp
  transit := by simp
  hold := by simp
  lastSent := by simp
  frames := by simp
  config := by simp
  startCount := by simp
  capturedTag := by simp
  incarnation := by simp
  lastRejection := by simp
  deviceNumber := by simp
  mode := by simp
  alertMask := by simp

/-- A settling finds nothing to do when nothing it depends on has changed. -/
theorem settleFrom_same (before after : State) (h : before.drainView = after.drainView) :
    settleFrom before after = after := by
  unfold settleFrom; rw [if_pos h]

/-- The arbiter chooses the first claim of R27's table. -/
theorem portChoice_firstClaim (m : CaptureMemory) :
    portChoice m = firstClaim m.owed (!m.staging.isEmpty) m.readRequest.isSome := by
  cases h : m.staging <;> simp [portChoice, firstClaim, h]

/-- A grant on a free port starts the first claim and moves nothing else of the controller (R27). -/
theorem grantPort_memory (h : s.memory.selfRefresh = false) (k : s.memory.op = none) :
    (grantPort s).memory =
      { s.memory with
        op := granted (firstClaim s.memory.owed (!s.memory.staging.isEmpty) s.memory.readRequest.isSome) } := by
  rw [← portChoice_firstClaim, granted, ← grantPort_op s ⟨h, k⟩]
  unfold grantPort
  split
  · split <;> rfl
  · rfl

/-- A completion in a configured station is followed by the grant of the first claim (R27, R31). -/
theorem portFreed_memory (c : s.station.config.isSome = true) (h : s.memory.selfRefresh = false) :
    (portFreed s).memory =
      { s.memory with
        op := granted (firstClaim s.memory.owed (!s.memory.staging.isEmpty) s.memory.readRequest.isSome) } := by
  obtain ⟨k, hk⟩ := Option.isSome_iff_exists.mp c
  unfold portFreed
  rw [hk]
  exact grantPort_memory _ h rfl

/-- A completion in a station without a configuration is followed by self-refresh (R31, R36). -/
theorem portFreed_unconfigured (c : s.station.config = none) :
    portFreed s = { s with memory := { s.memory with op := none, selfRefresh := true } } := by
  unfold portFreed
  rw [c]

end Sys2Proof.Machine
end

