-- ==== Sys2Proof/Laws/Memory.lean ====
section
/-! SUPPORT. The DRAM's list: every operation keeps its canonical form, and a read after a write. The one operation that
changes it is dramWrite; a SOFT RESET and a reset empty it. -/

namespace Sys2Proof.Machine

theorem wf_empty : Memory.wf [] = true := rfl

/-- The first slot of a list that a write makes is the slot written or the first slot there was. -/
theorem dramWrite_head (slot : Nat) (v : Slot) (l : List (Nat × Slot)) :
    ∃ a x rest, dramWrite slot v l = (a, x) :: rest ∧ (a = slot ∨ ∃ y r, l = (a, y) :: r) := by
  cases l with
  | nil => exact ⟨slot, v, [], rfl, .inl rfl⟩
  | cons p rest =>
    obtain ⟨a, x⟩ := p
    unfold dramWrite
    split
    · exact ⟨_, _, _, rfl, .inl rfl⟩
    · split
      · exact ⟨_, _, _, rfl, .inl rfl⟩
      · exact ⟨_, _, _, rfl, .inr ⟨_, _, rfl⟩⟩

/-- A write keeps the canonical form. -/
theorem dramWrite_wf (slot : Nat) (v : Slot) (l : List (Nat × Slot)) (h : Memory.wf l = true) :
    Memory.wf (dramWrite slot v l) = true := by
  induction l with
  | nil => rfl
  | cons p rest ih =>
    obtain ⟨a, x⟩ := p
    have htail : Memory.wf rest = true := by
      cases rest with
      | nil => rfl
      | cons q r => obtain ⟨b, y⟩ := q; simp [Memory.wf] at h; exact h.2
    unfold dramWrite
    split
    · next hlt => simp [Memory.wf, hlt, h]
    · split
      · next heq =>
        subst heq
        cases rest with
        | nil => rfl
        | cons q r => obtain ⟨b, y⟩ := q; simpa [Memory.wf] using h
      · next hlt hne =>
        obtain ⟨b, y, r, he, hb⟩ := dramWrite_head slot v rest
        have hw := ih htail
        rw [he] at hw ⊢
        simp only [Memory.wf, Bool.and_eq_true, decide_eq_true_eq]
        refine ⟨?_, hw⟩
        rcases hb with rfl | ⟨z, t, rfl⟩
        · omega
        · simp [Memory.wf] at h; exact h.1

/-- A slot just written reads as what was written. -/
theorem dramRead_dramWrite (slot : Nat) (v : Slot) (l : List (Nat × Slot)) :
    dramRead slot (dramWrite slot v l) = some v := by
  induction l with
  | nil => simp [dramWrite, dramRead]
  | cons p rest ih =>
    obtain ⟨a, x⟩ := p
    unfold dramWrite
    split
    · simp [dramRead]
    · split
      · simp [dramRead]
      · next hne => rw [dramRead, if_neg (Ne.symm hne)]; exact ih

/-- Every other slot reads as before. -/
theorem dramRead_dramWrite_other (slot other : Nat) (v : Slot) (l : List (Nat × Slot)) (h : other ≠ slot) :
    dramRead other (dramWrite slot v l) = dramRead other l := by
  induction l with
  | nil => simp [dramWrite, dramRead, Ne.symm h]
  | cons p rest ih =>
    obtain ⟨a, x⟩ := p
    unfold dramWrite
    split
    · rw [dramRead, if_neg (Ne.symm h)]
    · split
      · next heq => subst heq; simp [dramRead, Ne.symm h]
      · simp only [dramRead, ih]

/-! ### Lists -/

/-- The newest element of a list that ends in it is the one changed. -/
theorem mapLast_snoc {α : Type} (f : α → α) (l : List α) (x : α) : mapLast f (l ++ [x]) = l ++ [f x] := by
  induction l with
  | nil => rfl
  | cons a t ih =>
    cases t with
    | nil => rfl
    | cons b t => simp only [List.cons_append, mapLast] at ih ⊢; rw [ih]

@[simp] theorem mapLast_length {α : Type} (f : α → α) (l : List α) : (mapLast f l).length = l.length := by
  fun_induction mapLast f l <;> simp_all

@[simp] theorem mapHead_length {α : Type} (f : α → α) (l : List α) : (mapHead f l).length = l.length := by
  cases l <;> rfl

@[simp] theorem mapNth_length {α : Type} (f : α → α) (n : Nat) (l : List α) : (mapNth f n l).length = l.length := by
  fun_induction mapNth f n l <;> simp_all

theorem satAdd_le (limit value by_ : Nat) : satAdd limit value by_ ≤ limit := Nat.min_le_left _ _

/-- A request inserted makes the queue one longer (R69). -/
@[simp] theorem insertRequest_length (r : Request) (l : List Request) :
    (insertRequest r l).length = l.length + 1 := by
  induction l with
  | nil => rfl
  | cons q rest ih => unfold insertRequest; split <;> simp [ih]

end Sys2Proof.Machine
end

