-- ==== Sys2Proof/Laws/Runs.lean ====
section
/-! SUPPORT. The completion of a block, the run end and the taking of a sample set: what they reach (R6 to R16, R164); and
what a report makes of the flags (R175 to R177). -/

namespace Sys2Proof.Machine

variable (s : State)

@[simp] theorem stageBlock_intake (b : Block) : (stageBlock b s).intake = s.intake := by
  unfold stageBlock; simp
@[simp] theorem stageBlock_gaps (b : Block) : (stageBlock b s).gaps = s.gaps := by
  unfold stageBlock; simp
@[simp] theorem stageBlock_markers (b : Block) : (stageBlock b s).markers = s.markers := by
  unfold stageBlock; simp
@[simp] theorem stageBlock_table (b : Block) : (stageBlock b s).table = s.table := by
  unfold stageBlock; simp
@[simp] theorem stageBlock_assembler (b : Block) : (stageBlock b s).assembler = s.assembler := by
  unfold stageBlock; simp
@[simp] theorem stageBlock_spine (b : Block) : (stageBlock b s).spine = s.spine := by
  unfold stageBlock; simp
@[simp] theorem stageBlock_presence (b : Block) : (stageBlock b s).presence = s.presence := by
  unfold stageBlock; simp
@[simp] theorem stageBlock_station (b : Block) : (stageBlock b s).station = s.station := by
  unfold stageBlock; simp
@[simp] theorem stageBlock_port (b : Block) : (stageBlock b s).port = s.port := by
  unfold stageBlock; simp
@[simp] theorem stageBlock_resetHeld (b : Block) : (stageBlock b s).resetHeld = s.resetHeld := by
  unfold stageBlock; simp
@[simp] theorem stageBlock_pending (b : Block) : (stageBlock b s).pending = s.pending := by
  unfold stageBlock; simp
@[simp] theorem stageBlock_memory_dram (b : Block) : (stageBlock b s).memory.dram = s.memory.dram := by
  unfold stageBlock; simp
@[simp] theorem stageBlock_memory_writeSlot (b : Block) : (stageBlock b s).memory.writeSlot = s.memory.writeSlot := by
  unfold stageBlock; simp
@[simp] theorem stageBlock_memory_drainSlot (b : Block) : (stageBlock b s).memory.drainSlot = s.memory.drainSlot := by
  unfold stageBlock; simp
@[simp] theorem stageBlock_memory_storedCount (b : Block) : (stageBlock b s).memory.storedCount = s.memory.storedCount := by
  unfold stageBlock; simp
@[simp] theorem stageBlock_memory_owed (b : Block) : (stageBlock b s).memory.owed = s.memory.owed := by
  unfold stageBlock; simp
@[simp] theorem stageBlock_memory_refreshTimer (b : Block) : (stageBlock b s).memory.refreshTimer = s.memory.refreshTimer := by
  unfold stageBlock; simp
@[simp] theorem stageBlock_memory_thermal (b : Block) : (stageBlock b s).memory.thermal = s.memory.thermal := by
  unfold stageBlock; simp
@[simp] theorem stageBlock_memory_selfRefresh (b : Block) : (stageBlock b s).memory.selfRefresh = s.memory.selfRefresh := by
  unfold stageBlock; simp
@[simp] theorem stageBlock_memory_readRequest (b : Block) : (stageBlock b s).memory.readRequest = s.memory.readRequest := by
  unfold stageBlock; simp
@[simp] theorem stageBlock_faults_mode (b : Block) : (stageBlock b s).faults.mode = s.faults.mode := by
  unfold stageBlock; simp
@[simp] theorem stageBlock_faults_alertMask (b : Block) : (stageBlock b s).faults.alertMask = s.faults.alertMask := by
  unfold stageBlock; simp
@[simp] theorem stageBlock_counters_lateRefresh (b : Block) : (stageBlock b s).counters.lateRefresh = s.counters.lateRefresh := by
  unfold stageBlock; simp
@[simp] theorem stageBlock_counters_corrected (b : Block) : (stageBlock b s).counters.corrected = s.counters.corrected := by
  unfold stageBlock; simp
@[simp] theorem stageBlock_counters_uncorrectable (b : Block) : (stageBlock b s).counters.uncorrectable = s.counters.uncorrectable := by
  unfold stageBlock; simp
@[simp] theorem stageBlock_counters_suppressed (b : Block) : (stageBlock b s).counters.suppressed = s.counters.suppressed := by
  unfold stageBlock; simp
@[simp] theorem stageBlock_counters_overflow (b : Block) : (stageBlock b s).counters.overflow = s.counters.overflow := by
  unfold stageBlock; simp
@[simp] theorem stageBlock_counters_checkError (b : Block) : (stageBlock b s).counters.checkError = s.counters.checkError := by
  unfold stageBlock; simp
@[simp] theorem stageBlock_counters_orphan (b : Block) : (stageBlock b s).counters.orphan = s.counters.orphan := by
  unfold stageBlock; simp
@[simp] theorem stageBlock_counters_unclaimed (b : Block) : (stageBlock b s).counters.unclaimed = s.counters.unclaimed := by
  unfold stageBlock; simp
@[simp] theorem stageBlock_counters_gapSamples (b : Block) : (stageBlock b s).counters.gapSamples = s.counters.gapSamples := by
  unfold stageBlock; simp
@[simp] theorem stageBlock_counters_absorbed (b : Block) : (stageBlock b s).counters.absorbed = s.counters.absorbed := by
  unfold stageBlock; simp
@[simp] theorem stageBlock_counters_clamped (b : Block) : (stageBlock b s).counters.clamped = s.counters.clamped := by
  unfold stageBlock; simp
@[simp] theorem stageBlock_staging (b : Block) : (stageBlock b s).memory.staging = s.memory.staging ++ [b] := by
  unfold stageBlock; simp
@[simp] theorem stageBlock_staged (b : Block) :
    (stageBlock b s).counters.staged = satAdd Config.counter32 s.counters.staged 1 := by
  unfold stageBlock; simp

@[simp] theorem completeBlock_markers : (completeBlock s).markers = s.markers := by
  unfold completeBlock; simp only [report_markers]; split <;> simp
@[simp] theorem completeBlock_table : (completeBlock s).table = s.table := by
  unfold completeBlock; simp only [report_table]; split <;> simp
@[simp] theorem completeBlock_assembler : (completeBlock s).assembler = s.assembler := by
  unfold completeBlock; simp only [report_assembler]; split <;> simp
@[simp] theorem completeBlock_spine : (completeBlock s).spine = s.spine := by
  unfold completeBlock; simp only [report_spine]; split <;> simp
@[simp] theorem completeBlock_presence : (completeBlock s).presence = s.presence := by
  unfold completeBlock; simp only [report_presence]; split <;> simp
@[simp] theorem completeBlock_station : (completeBlock s).station = s.station := by
  unfold completeBlock; simp only [report_station]; split <;> simp
@[simp] theorem completeBlock_port : (completeBlock s).port = s.port := by
  unfold completeBlock; simp only [report_port]; split <;> simp
@[simp] theorem completeBlock_resetHeld : (completeBlock s).resetHeld = s.resetHeld := by
  unfold completeBlock; simp only [report_resetHeld]; split <;> simp
@[simp] theorem completeBlock_pending : (completeBlock s).pending = s.pending := by
  unfold completeBlock; simp only [report_pending]; split <;> simp
@[simp] theorem completeBlock_memory_dram : (completeBlock s).memory.dram = s.memory.dram := by
  unfold completeBlock; simp only [report_memory]; split <;> simp
@[simp] theorem completeBlock_memory_writeSlot : (completeBlock s).memory.writeSlot = s.memory.writeSlot := by
  unfold completeBlock; simp only [report_memory]; split <;> simp
@[simp] theorem completeBlock_memory_drainSlot : (completeBlock s).memory.drainSlot = s.memory.drainSlot := by
  unfold completeBlock; simp only [report_memory]; split <;> simp
@[simp] theorem completeBlock_memory_storedCount : (completeBlock s).memory.storedCount = s.memory.storedCount := by
  unfold completeBlock; simp only [report_memory]; split <;> simp
@[simp] theorem completeBlock_memory_owed : (completeBlock s).memory.owed = s.memory.owed := by
  unfold completeBlock; simp only [report_memory]; split <;> simp
@[simp] theorem completeBlock_memory_refreshTimer : (completeBlock s).memory.refreshTimer = s.memory.refreshTimer := by
  unfold completeBlock; simp only [report_memory]; split <;> simp
@[simp] theorem completeBlock_memory_thermal : (completeBlock s).memory.thermal = s.memory.thermal := by
  unfold completeBlock; simp only [report_memory]; split <;> simp
@[simp] theorem completeBlock_memory_selfRefresh : (completeBlock s).memory.selfRefresh = s.memory.selfRefresh := by
  unfold completeBlock; simp only [report_memory]; split <;> simp
@[simp] theorem completeBlock_memory_readRequest : (completeBlock s).memory.readRequest = s.memory.readRequest := by
  unfold completeBlock; simp only [report_memory]; split <;> simp
@[simp] theorem completeBlock_faults_mode : (completeBlock s).faults.mode = s.faults.mode := by
  unfold completeBlock; simp only [report_faults_mode]; split <;> simp
@[simp] theorem completeBlock_faults_alertMask : (completeBlock s).faults.alertMask = s.faults.alertMask := by
  unfold completeBlock; simp only [report_faults_alertMask]; split <;> simp
@[simp] theorem completeBlock_counters_lateRefresh : (completeBlock s).counters.lateRefresh = s.counters.lateRefresh := by
  unfold completeBlock; simp only [report_counters]; split <;> simp [countDropped]
@[simp] theorem completeBlock_counters_corrected : (completeBlock s).counters.corrected = s.counters.corrected := by
  unfold completeBlock; simp only [report_counters]; split <;> simp [countDropped]
@[simp] theorem completeBlock_counters_uncorrectable : (completeBlock s).counters.uncorrectable = s.counters.uncorrectable := by
  unfold completeBlock; simp only [report_counters]; split <;> simp [countDropped]
@[simp] theorem completeBlock_counters_suppressed : (completeBlock s).counters.suppressed = s.counters.suppressed := by
  unfold completeBlock; simp only [report_counters]; split <;> simp [countDropped]
@[simp] theorem completeBlock_counters_overflow : (completeBlock s).counters.overflow = s.counters.overflow := by
  unfold completeBlock; simp only [report_counters]; split <;> simp [countDropped]
@[simp] theorem completeBlock_counters_checkError : (completeBlock s).counters.checkError = s.counters.checkError := by
  unfold completeBlock; simp only [report_counters]; split <;> simp [countDropped]
@[simp] theorem completeBlock_counters_orphan : (completeBlock s).counters.orphan = s.counters.orphan := by
  unfold completeBlock; simp only [report_counters]; split <;> simp [countDropped]
@[simp] theorem completeBlock_counters_unclaimed : (completeBlock s).counters.unclaimed = s.counters.unclaimed := by
  unfold completeBlock; simp only [report_counters]; split <;> simp [countDropped]
@[simp] theorem completeBlock_counters_absorbed : (completeBlock s).counters.absorbed = s.counters.absorbed := by
  unfold completeBlock; simp only [report_counters]; split <;> simp [countDropped]
@[simp] theorem completeBlock_counters_clamped : (completeBlock s).counters.clamped = s.counters.clamped := by
  unfold completeBlock; simp only [report_counters]; split <;> simp [countDropped]

/-- A completed block leaves nothing being filled (R6). -/
@[simp] theorem completeBlock_intake :
    (completeBlock s).intake = { s.intake with filling := [], laneMark := false } := by
  unfold completeBlock; simp only [report_intake]; split <;> simp

/-- The Gap List receives the decision (R10). -/
@[simp] theorem completeBlock_gaps :
    (completeBlock s).gaps =
      s.gaps.decided (decideBlock s) (Config.blockSamples * blockNumberAt s.intake.point)
        (blockFillAt s.intake.point) := by
  unfold completeBlock; simp only [report_gaps]; split <;> simp_all

/-- A block decided to be staged joins the Staging Buffer (R12). -/
theorem completeBlock_stage (h : decideBlock s = .stage) :
    (completeBlock s).memory.staging =
        s.memory.staging ++
          [{ number := blockNumberAt s.intake.point, fill := blockFillAt s.intake.point,
             samples := s.intake.filling }] ∧
      (completeBlock s).counters.staged = satAdd Config.counter32 s.counters.staged 1 ∧
      (completeBlock s).counters.gapSamples = s.counters.gapSamples := by
  unfold completeBlock; simp [h]

/-- A block decided to be dropped is counted (R13). -/
theorem completeBlock_drop (h : decideBlock s ≠ .stage) :
    (completeBlock s).memory.staging = s.memory.staging ∧ (completeBlock s).counters.staged = s.counters.staged ∧
      (completeBlock s).counters.gapSamples =
        satAdd Config.counter48 s.counters.gapSamples (blockFillAt s.intake.point) := by
  unfold completeBlock
  cases e : decideBlock s with
  | held => simp [countDropped]
  | drop cause => simp [countDropped]
  | stage => exact absurd e h

@[simp] theorem endRun_assembler : (endRun s).assembler = s.assembler := by
  unfold endRun; simp only []; split <;> simp
@[simp] theorem endRun_spine : (endRun s).spine = s.spine := by
  unfold endRun; simp only []; split <;> simp
@[simp] theorem endRun_presence : (endRun s).presence = s.presence := by
  unfold endRun; simp only []; split <;> simp
@[simp] theorem endRun_port : (endRun s).port = s.port := by
  unfold endRun; simp only []; split <;> simp
@[simp] theorem endRun_resetHeld : (endRun s).resetHeld = s.resetHeld := by
  unfold endRun; simp only []; split <;> simp
@[simp] theorem endRun_pending : (endRun s).pending = s.pending := by
  unfold endRun; simp only []; split <;> simp
@[simp] theorem endRun_memory_dram : (endRun s).memory.dram = s.memory.dram := by
  unfold endRun; simp only []; split <;> simp
@[simp] theorem endRun_memory_writeSlot : (endRun s).memory.writeSlot = s.memory.writeSlot := by
  unfold endRun; simp only []; split <;> simp
@[simp] theorem endRun_memory_drainSlot : (endRun s).memory.drainSlot = s.memory.drainSlot := by
  unfold endRun; simp only []; split <;> simp
@[simp] theorem endRun_memory_storedCount : (endRun s).memory.storedCount = s.memory.storedCount := by
  unfold endRun; simp only []; split <;> simp
@[simp] theorem endRun_memory_owed : (endRun s).memory.owed = s.memory.owed := by
  unfold endRun; simp only []; split <;> simp
@[simp] theorem endRun_memory_refreshTimer : (endRun s).memory.refreshTimer = s.memory.refreshTimer := by
  unfold endRun; simp only []; split <;> simp
@[simp] theorem endRun_memory_thermal : (endRun s).memory.thermal = s.memory.thermal := by
  unfold endRun; simp only []; split <;> simp
@[simp] theorem endRun_memory_selfRefresh : (endRun s).memory.selfRefresh = s.memory.selfRefresh := by
  unfold endRun; simp only []; split <;> simp
@[simp] theorem endRun_memory_readRequest : (endRun s).memory.readRequest = s.memory.readRequest := by
  unfold endRun; simp only []; split <;> simp
@[simp] theorem endRun_faults_mode : (endRun s).faults.mode = s.faults.mode := by
  unfold endRun; simp only []; split <;> simp
@[simp] theorem endRun_faults_alertMask : (endRun s).faults.alertMask = s.faults.alertMask := by
  unfold endRun; simp only []; split <;> simp
@[simp] theorem endRun_table_head : (endRun s).table.head = s.table.head := by
  unfold endRun; simp only []; split <;> simp
@[simp] theorem endRun_station_config : (endRun s).station.config = s.station.config := by
  unfold endRun; simp only []; split <;> simp
@[simp] theorem endRun_station_startCount : (endRun s).station.startCount = s.station.startCount := by
  unfold endRun; simp only []; split <;> simp
@[simp] theorem endRun_station_capturedTag : (endRun s).station.capturedTag = s.station.capturedTag := by
  unfold endRun; simp only []; split <;> simp
@[simp] theorem endRun_station_incarnation : (endRun s).station.incarnation = s.station.incarnation := by
  unfold endRun; simp only []; split <;> simp
@[simp] theorem endRun_station_lastRejection : (endRun s).station.lastRejection = s.station.lastRejection := by
  unfold endRun; simp only []; split <;> simp
@[simp] theorem endRun_station_deviceNumber : (endRun s).station.deviceNumber = s.station.deviceNumber := by
  unfold endRun; simp only []; split <;> simp

/-- The run end freezes the intake at its point (R15). -/
@[simp] theorem endRun_intake :
    (endRun s).intake =
      { s.intake with
        phase := .ended
        ending := some s.intake.point
        filling := []
        laneMark := false
        stopHeld := false } := by
  unfold endRun; simp only []; split <;> simp

@[simp] theorem endRun_markers :
    (endRun s).markers = { s.markers with lines := linesRunEnd s.markers.lines } := by
  unfold endRun; simp only []; split <;> simp

@[simp] theorem endRun_phase : (endRun s).station.phase = .flush := by
  unfold endRun; simp

@[simp] theorem advanceIntake_markers (lanes : Vector Sample 8) : (advanceIntake lanes s).markers = s.markers := by
  unfold advanceIntake; simp only []; split <;> simp [considerHead]
@[simp] theorem advanceIntake_spine (lanes : Vector Sample 8) : (advanceIntake lanes s).spine = s.spine := by
  unfold advanceIntake; simp only []; split <;> simp [considerHead]
@[simp] theorem advanceIntake_assembler (lanes : Vector Sample 8) : (advanceIntake lanes s).assembler = s.assembler := by
  unfold advanceIntake; simp only []; split <;> simp [considerHead]
@[simp] theorem advanceIntake_presence (lanes : Vector Sample 8) : (advanceIntake lanes s).presence = s.presence := by
  unfold advanceIntake; simp only []; split <;> simp [considerHead]
@[simp] theorem advanceIntake_station (lanes : Vector Sample 8) : (advanceIntake lanes s).station = s.station := by
  unfold advanceIntake; simp only []; split <;> simp [considerHead]
@[simp] theorem advanceIntake_port (lanes : Vector Sample 8) : (advanceIntake lanes s).port = s.port := by
  unfold advanceIntake; simp only []; split <;> simp [considerHead]
@[simp] theorem advanceIntake_resetHeld (lanes : Vector Sample 8) : (advanceIntake lanes s).resetHeld = s.resetHeld := by
  unfold advanceIntake; simp only []; split <;> simp [considerHead]
@[simp] theorem advanceIntake_pending (lanes : Vector Sample 8) : (advanceIntake lanes s).pending = s.pending := by
  unfold advanceIntake; simp only []; split <;> simp [considerHead]
@[simp] theorem advanceIntake_memory_dram (lanes : Vector Sample 8) : (advanceIntake lanes s).memory.dram = s.memory.dram := by
  unfold advanceIntake; simp only []; split <;> simp [considerHead]
@[simp] theorem advanceIntake_memory_writeSlot (lanes : Vector Sample 8) : (advanceIntake lanes s).memory.writeSlot = s.memory.writeSlot := by
  unfold advanceIntake; simp only []; split <;> simp [considerHead]
@[simp] theorem advanceIntake_memory_drainSlot (lanes : Vector Sample 8) : (advanceIntake lanes s).memory.drainSlot = s.memory.drainSlot := by
  unfold advanceIntake; simp only []; split <;> simp [considerHead]
@[simp] theorem advanceIntake_memory_storedCount (lanes : Vector Sample 8) : (advanceIntake lanes s).memory.storedCount = s.memory.storedCount := by
  unfold advanceIntake; simp only []; split <;> simp [considerHead]
@[simp] theorem advanceIntake_memory_owed (lanes : Vector Sample 8) : (advanceIntake lanes s).memory.owed = s.memory.owed := by
  unfold advanceIntake; simp only []; split <;> simp [considerHead]
@[simp] theorem advanceIntake_memory_refreshTimer (lanes : Vector Sample 8) : (advanceIntake lanes s).memory.refreshTimer = s.memory.refreshTimer := by
  unfold advanceIntake; simp only []; split <;> simp [considerHead]
@[simp] theorem advanceIntake_memory_thermal (lanes : Vector Sample 8) : (advanceIntake lanes s).memory.thermal = s.memory.thermal := by
  unfold advanceIntake; simp only []; split <;> simp [considerHead]
@[simp] theorem advanceIntake_memory_selfRefresh (lanes : Vector Sample 8) : (advanceIntake lanes s).memory.selfRefresh = s.memory.selfRefresh := by
  unfold advanceIntake; simp only []; split <;> simp [considerHead]
@[simp] theorem advanceIntake_memory_readRequest (lanes : Vector Sample 8) : (advanceIntake lanes s).memory.readRequest = s.memory.readRequest := by
  unfold advanceIntake; simp only []; split <;> simp [considerHead]
@[simp] theorem advanceIntake_faults_mode (lanes : Vector Sample 8) : (advanceIntake lanes s).faults.mode = s.faults.mode := by
  unfold advanceIntake; simp only []; split <;> simp [considerHead]
@[simp] theorem advanceIntake_faults_alertMask (lanes : Vector Sample 8) : (advanceIntake lanes s).faults.alertMask = s.faults.alertMask := by
  unfold advanceIntake; simp only []; split <;> simp [considerHead]
@[simp] theorem advanceIntake_table_head (lanes : Vector Sample 8) : (advanceIntake lanes s).table.head = s.table.head := by
  unfold advanceIntake; simp only []; split <;> simp [considerHead]
@[simp] theorem takeSampleSet_spine (lanes : Vector Sample 8) : (takeSampleSet lanes s).spine = s.spine := by
  unfold takeSampleSet; simp only []; split
  · simp
  · split <;> simp
@[simp] theorem takeSampleSet_assembler (lanes : Vector Sample 8) : (takeSampleSet lanes s).assembler = s.assembler := by
  unfold takeSampleSet; simp only []; split
  · simp
  · split <;> simp
@[simp] theorem takeSampleSet_presence (lanes : Vector Sample 8) : (takeSampleSet lanes s).presence = s.presence := by
  unfold takeSampleSet; simp only []; split
  · simp
  · split <;> simp
@[simp] theorem takeSampleSet_port (lanes : Vector Sample 8) : (takeSampleSet lanes s).port = s.port := by
  unfold takeSampleSet; simp only []; split
  · simp
  · split <;> simp
@[simp] theorem takeSampleSet_resetHeld (lanes : Vector Sample 8) : (takeSampleSet lanes s).resetHeld = s.resetHeld := by
  unfold takeSampleSet; simp only []; split
  · simp
  · split <;> simp
@[simp] theorem takeSampleSet_pending (lanes : Vector Sample 8) : (takeSampleSet lanes s).pending = s.pending := by
  unfold takeSampleSet; simp only []; split
  · simp
  · split <;> simp
@[simp] theorem takeSampleSet_memory_dram (lanes : Vector Sample 8) : (takeSampleSet lanes s).memory.dram = s.memory.dram := by
  unfold takeSampleSet; simp only []; split
  · simp
  · split <;> simp
@[simp] theorem takeSampleSet_memory_writeSlot (lanes : Vector Sample 8) : (takeSampleSet lanes s).memory.writeSlot = s.memory.writeSlot := by
  unfold takeSampleSet; simp only []; split
  · simp
  · split <;> simp
@[simp] theorem takeSampleSet_memory_drainSlot (lanes : Vector Sample 8) : (takeSampleSet lanes s).memory.drainSlot = s.memory.drainSlot := by
  unfold takeSampleSet; simp only []; split
  · simp
  · split <;> simp
@[simp] theorem takeSampleSet_memory_storedCount (lanes : Vector Sample 8) : (takeSampleSet lanes s).memory.storedCount = s.memory.storedCount := by
  unfold takeSampleSet; simp only []; split
  · simp
  · split <;> simp
@[simp] theorem takeSampleSet_memory_owed (lanes : Vector Sample 8) : (takeSampleSet lanes s).memory.owed = s.memory.owed := by
  unfold takeSampleSet; simp only []; split
  · simp
  · split <;> simp
@[simp] theorem takeSampleSet_memory_refreshTimer (lanes : Vector Sample 8) : (takeSampleSet lanes s).memory.refreshTimer = s.memory.refreshTimer := by
  unfold takeSampleSet; simp only []; split
  · simp
  · split <;> simp
@[simp] theorem takeSampleSet_memory_thermal (lanes : Vector Sample 8) : (takeSampleSet lanes s).memory.thermal = s.memory.thermal := by
  unfold takeSampleSet; simp only []; split
  · simp
  · split <;> simp
@[simp] theorem takeSampleSet_memory_selfRefresh (lanes : Vector Sample 8) : (takeSampleSet lanes s).memory.selfRefresh = s.memory.selfRefresh := by
  unfold takeSampleSet; simp only []; split
  · simp
  · split <;> simp
@[simp] theorem takeSampleSet_memory_readRequest (lanes : Vector Sample 8) : (takeSampleSet lanes s).memory.readRequest = s.memory.readRequest := by
  unfold takeSampleSet; simp only []; split
  · simp
  · split <;> simp
@[simp] theorem takeSampleSet_faults_mode (lanes : Vector Sample 8) : (takeSampleSet lanes s).faults.mode = s.faults.mode := by
  unfold takeSampleSet; simp only []; split
  · simp
  · split <;> simp
@[simp] theorem takeSampleSet_faults_alertMask (lanes : Vector Sample 8) : (takeSampleSet lanes s).faults.alertMask = s.faults.alertMask := by
  unfold takeSampleSet; simp only []; split
  · simp
  · split <;> simp
@[simp] theorem takeSampleSet_table_head (lanes : Vector Sample 8) : (takeSampleSet lanes s).table.head = s.table.head := by
  unfold takeSampleSet; simp only []; split
  · simp
  · split <;> simp
@[simp] theorem takeSampleSet_station_config (lanes : Vector Sample 8) : (takeSampleSet lanes s).station.config = s.station.config := by
  unfold takeSampleSet; simp only []; split
  · simp
  · split <;> simp
@[simp] theorem takeSampleSet_station_startCount (lanes : Vector Sample 8) : (takeSampleSet lanes s).station.startCount = s.station.startCount := by
  unfold takeSampleSet; simp only []; split
  · simp
  · split <;> simp
@[simp] theorem takeSampleSet_station_capturedTag (lanes : Vector Sample 8) : (takeSampleSet lanes s).station.capturedTag = s.station.capturedTag := by
  unfold takeSampleSet; simp only []; split
  · simp
  · split <;> simp
@[simp] theorem takeSampleSet_station_incarnation (lanes : Vector Sample 8) : (takeSampleSet lanes s).station.incarnation = s.station.incarnation := by
  unfold takeSampleSet; simp only []; split
  · simp
  · split <;> simp
@[simp] theorem takeSampleSet_station_lastRejection (lanes : Vector Sample 8) : (takeSampleSet lanes s).station.lastRejection = s.station.lastRejection := by
  unfold takeSampleSet; simp only []; split
  · simp
  · split <;> simp
@[simp] theorem takeSampleSet_station_deviceNumber (lanes : Vector Sample 8) : (takeSampleSet lanes s).station.deviceNumber = s.station.deviceNumber := by
  unfold takeSampleSet; simp only []; split
  · simp
  · split <;> simp

/-! ### Considerations and settling -/

/-- One link of a consideration (R71). -/
theorem considerRequests_cons (r : Request) (rest : List Request) :
    considerRequests (r :: rest) s =
      match judgeRequest s r with
      | .waiting => { s with table := { s.table with queue := r :: rest } }
      | .absorbed coincident => considerRequests rest (absorbRequest coincident s)
      | .applied start => considerRequests rest (applyRequest r start s) := rfl

/-- With the frame part full a settling places and starts nothing, and completes no flush (R93, R165). -/
theorem settle_full (h : s.spine.frames.length = Config.frameSlots) : settle s = s := by
  have hp : placeMemoryGap s = s := by
    unfold placeMemoryGap
    split
    · rw [if_neg (by omega)]
    · rfl
    · rfl
  have hf : s.flushed = false := by
    unfold State.flushed
    cases e : s.spine.frames with
    | nil => rw [e] at h; simp at h
    | cons a l => simp
  unfold settle
  rw [hp, considerFrames_none _ _ (chooseFrame_full _ (by omega))]
  unfold completeFlush
  rw [if_neg (by simp [hf])]

theorem settleFrom_full (before after : State) (h : after.spine.frames.length = Config.frameSlots) :
    settleFrom before after = after := by
  unfold settleFrom; split; exacts [rfl, settle_full _ h]

/-! ### Reports -/

/-- The conditions depend on these parts alone (R2, R16, R32, R49, R124, R143, R145, R148, R149). -/
theorem conditions_congr (s t : State) (h₁ : t.intake.exhausted = s.intake.exhausted)
    (h₂ : t.intake.laneOut = s.intake.laneOut) (h₃ : t.station.config = s.station.config)
    (h₄ : t.gaps.active = s.gaps.active) (h₅ : t.gaps.overrun = s.gaps.overrun)
    (h₆ : t.memory.thermal = s.memory.thermal) (h₇ : t.spine.hold = s.spine.hold)
    (h₈ : t.presence.peers = s.presence.peers) : t.conditions = s.conditions := by
  unfold State.conditions State.somePeer State.laneFault State.channels
  rw [h₁, h₂, h₃, h₄, h₅, h₆, h₇, h₈]

@[simp] theorem report_conditions (before after : State) : (report before after).conditions = after.conditions := by
  apply conditions_congr <;> simp

/-- What the flags are after a report, in both modes (R176, R177). -/
theorem report_flags (before after : State) :
    (report before after).faults.flags =
      match after.faults.mode with
      | .latched => after.faults.flags ||| begun before after
      | .live => (after.faults.flags &&& ~~~conditionFlags) ||| after.conditions := by
  cases h : after.faults.mode <;> simp [report, h, FaultMonitor.raise]

end Sys2Proof.Machine
end

