-- ==== Sys2Proof/WellFormed.lean ====
section
/-! DEFINITION. Which command terms name an event the document has: the operand ranges that the types leave open. -/

namespace Sys2Proof

/-- The byte names a management command (R186). -/
def isCommandByte (code : Byte) : Bool := 1 ≤ code.toNat && code.toNat ≤ 12

/-- The address is one a peer can have (R146). -/
def isPeerAddress (address : BitVec 4) : Bool := 1 ≤ address.toNat && address.toNat ≤ 14

/-- No unit is longer than 16,448 bytes (R117), so no byte count of one unit is. -/
def isUnitByteCount (count : Nat) : Bool := count ≤ 16448

/-- The operands lie in the ranges the document gives them. -/
def Instr.wellFormed : Instr → Bool
  | .powerOn _ => true
  | .resetAssert => true
  | .resetRelease _ => true
  | .identify => true
  | .loadConfig _ _ => true
  | .readStatus => true
  | .readFaults => true
  | .setAlertMask _ => true
  | .readCounters => true
  | .readSegment _ => true
  | .readGap _ => true
  | .readPeer _ => true
  | .rearmMarkers _ => true
  | .stopRun => true
  | .softReset => true
  | .unknownCommand code => !isCommandByte code
  | .scsRise => true
  | .sampleSetTaken _ => true
  | .laneAlignmentChange _ _ => true
  | .startEdge => true
  | .stopEdge => true
  | .markerEdge _ => true
  | .markerInactiveLevel _ => true
  | .markerActiveInRecovery _ => true
  | .markerQualify _ _ => true
  | .markerRecoveryEnd _ => true
  | .markerWindowLeave _ => true
  | .boundaryApply => true
  | .blockWriteComplete => true
  | .blockReadComplete _ _ => true
  | .refreshComplete => true
  | .refreshExpiry => true
  | .thermalReading _ => true
  | .trailerPlace => true
  | .gapFramePlace => true
  | .dataFrameStart => true
  | .memoryGapPlace => true
  | .flushAgeExpiry => true
  | .unitHeaderArrival _ sent => isUnitByteCount sent
  | .unitEnd _ => true
  | .forwardingEnd _ => true
  | .noteInsertionEnd _ => true
  | .frameInsertionComplete _ => true
  | .paceTick => true
  | .peerStaleExpiry address => isPeerAddress address
  | .peerAbsentExpiry address => isPeerAddress address
  | .ingestAgeOut => true
  | .ringOpen => true
  | .flushComplete => true
  | .scsFall => true
  | .commandByteReceived _ => true
  | .lastReplyByteClockedOut => true

end Sys2Proof
end

