-- ==== Sys2Proof/Tests/Slice0.lean ====
section
/-! SUPPORT. The model's own tests: the smoke test of WellFormed, small checks of each command whose expected values come
from the document's worked sequences and tables, and a witness for the hypotheses of each obligation. -/

namespace Sys2Proof.Tests

open Sys2Proof.Machine

-- Each test is checked before the next is read: many kernel evaluations at once would each hold a thread.
set_option Elab.async false

/-! ### Small states -/

/-- A marker line set up with code 1 (1.024 µs), as MK0 in the worked sequence of 04. -/
def autoLine : LineSetup := { enabled := true, polarity := .rising, qualification := 1, rearm := .auto }

/-- A marker line set up with code 0 (64 ns), as MK2 in the worked sequence of 04. -/
def manualLine : LineSetup := { enabled := true, polarity := .falling, qualification := 0, rearm := .manual }

/-- A line that is not enabled. -/
def idleLine : LineSetup := { enabled := false, polarity := .rising, qualification := 0, rearm := .manual }

/-- A configuration with n = 4, payload code 1 and hold code 1. -/
def cfg : Configuration :=
  { channelCode := 2, rateClass := 0, spineRate := 1, payloadCode := 1, holdCode := 1, faultMode := .latched,
    lines := ⟨autoLine, idleLine, manualLine, idleLine⟩ }

/-- Station 5, joined, in a state other than UNCONFIGURED, with an intake point. -/
def st (phase : StationPhase) (point : Nat := 0) : State :=
  { intake :=
      { phase := intakePhaseIn phase, point := point, ending := if phase = .flush then some point else none }
    memory := { refreshTimer := some 3900, selfRefresh := false }
    spine := { ownAddress := some 5, strapSample := 5, hold := { notJoined := false } }
    presence := { ticking := true, joined := true }
    station :=
      { phase := phase, config := some cfg, startCount := 12, capturedTag := 12, incarnation := 6,
        deviceNumber := 0x7A0C3E15 } }

/-- The station in RUN: one OPEN segment from index 0 on. -/
def running (point : Nat) : State :=
  { st .run point with table := { live := [{ origin := 0, seq := 0, cause := .runStart, start := 0 }] } }

/-- The port in a transaction state. -/
def atPort (phase : PortPhase) (s : State) : State := { s with port := { phase := phase } }

/-- The station with a line in a state. -/
def onLine (line : Fin 4) (l : MarkerLine) (s : State) : State :=
  { s with markers := { s.markers with lines := s.markers.lines.set line l } }

/-- A sample set with one value on every lane. -/
def lanes (x : Sample) : Vector Sample 8 := Vector.replicate 8 x

/-- A block of constant samples for four channels. -/
def block (number : Nat) : Block :=
  { number := number, fill := 512, samples := List.replicate 4 (List.replicate 512 1) }

/-- The frame part with some GAP frames of the station's own. -/
def frames (count : Nat) : List Frame :=
  List.replicate count
    { origin := (st .run).unitOrigin, seq := 0, segOrigin := 0, segSeq := 0, body := .gap 0 1 .memory false }

/-- The station with a number of frames in the frame part. -/
def withFrames (count : Nat) (s : State) : State := { s with spine := { s.spine with frames := frames count } }

/-- The state after a command. -/
def after (c : Instr) (s : State) : State :=
  match exec c s with
  | .next t => t
  | .fault _ => s
  | .refused _ => s

/-- The sixty header bytes as the operand of UNIT_HEADER_ARRIVAL. -/
def asHeader (bytes : List Byte) : Vector Byte 60 := Vector.ofFn fun i => byteAt bytes i.val

/-- The header of a unit of another station: a frame with the largest payload, or a note. -/
def peerOrigin (source : Byte) : UnitOrigin :=
  { source := source, device := 1, incarnation := 1, rateClass := 0, runTag := 12 }

/-- A frame of station 9 with a 16,384-byte payload, as T1 to T4 in the worked sequence of 07. -/
def bigHeader : List Byte := commonHeader 1 0 (peerOrigin 9) 16384 ++ zeros 44

/-- A PRESENCE note. -/
def presenceNote (o : UnitOrigin) (demand : Level) : Note :=
  { origin := o, body := .presence 7 .run demand 0 500 {} 0 }

/-- A MARKER note. -/
def markerNote (o : UnitOrigin) (seq : BitVec 16) (index : Nat) : Note := { origin := o, body := .marker seq 2 index }

/-- The bytes of a header-only unit that follow its sixtieth: the check word. -/
def tail (header : List Byte) : List Byte := leBytes 4 (checkWord header []).toNat

/-- An INGEST note of the archive node (R183). -/
def ingestHeader (level hold : Byte) : List Byte :=
  commonHeader 0x12 15 (peerOrigin 0) 0 ++ [3, 0, level, hold] ++ zeros 40

/-- The station with a unit on its input whose header has arrived. -/
def arriving (header : List Byte) (fate : ArrivalFate) (s : State) : State :=
  { s with
    spine :=
      { s.spine with
        input := some { header := header, fate := fate }
        transit :=
          if fate = .accepted then [{ header := header, length := unitLengthOf header, received := 60 }] else [] } }

theorem leValue_leBytes (size value : Nat) : leValue (leBytes size value) = value % 256 ^ size := by
  induction size generalizing value with
  | zero => simp [leBytes, leValue, Nat.mod_one]
  | succ size ih =>
    simp only [leBytes, leValue, ih, BitVec.toNat_ofNat]
    rw [show 256 ^ (size + 1) = 256 * 256 ^ size from Nat.pow_succ', Nat.mod_mul (a := 256)]

/-- A header-only unit that ends in its check word is good. -/
theorem isGood_tail (header : List Byte) (h : payloadLengthOf header = 0) : isGood header (tail header) = true := by
  have len : (tail header).length = 4 := rfl
  have all : (tail header).take 4 = tail header := List.take_of_length_le (by omega)
  have word : (checkWord header []).toNat % 256 ^ 4 = (checkWord header []).toNat :=
    Nat.mod_eq_of_lt (checkWord header []).isLt
  simp only [isGood, fieldAt, unitLengthOf, h, len, List.drop_zero, List.take_zero, all]
  rw [tail, leValue_leBytes, word]
  simp

/-! ### WellFormed refuses an ill-formed command at each check -/

theorem test_wellFormed_accepts : (Instr.unknownCommand 0).wellFormed = true ∧ (Instr.unknownCommand 13).wellFormed = true ∧
    (Instr.peerStaleExpiry 14).wellFormed = true ∧ (Instr.unitHeaderArrival (asHeader bigHeader) 16448).wellFormed = true := by decide
theorem test_wellFormed_refuses_known_code :
    (Instr.unknownCommand 1).wellFormed = false ∧ (Instr.unknownCommand 12).wellFormed = false := by decide
theorem test_wellFormed_refuses_peer_address :
    (Instr.peerStaleExpiry 0).wellFormed = false ∧ (Instr.peerStaleExpiry 15).wellFormed = false ∧
      (Instr.peerAbsentExpiry 0).wellFormed = false ∧ (Instr.peerAbsentExpiry 15).wellFormed = false := by decide
theorem test_wellFormed_refuses_byte_count :
    (Instr.unitHeaderArrival (asHeader bigHeader) 16449).wellFormed = false := by decide

/-! ### Resets and the management port (09, 10) -/

theorem test_powerOn_samples_straps :
    (after (.powerOn 3) State.reset).spine.ownAddress = some 3 ∧ (after (.powerOn 15) State.reset).spine.ownAddress = none := by
  decide
theorem test_resetAssert_holds : (after .resetAssert (running 5)).resetHeld = true ∧
    (after .resetAssert (running 5)).station.phase = .unconfigured := by decide
theorem test_resetRelease_sets_POR :
    (after (.resetRelease 0) (after .resetAssert (running 5))).faults.flags = 1 ∧
      (after (.resetRelease 14) (after .resetAssert (running 5))).resetHeld = false := by decide
theorem test_identify_reply :
    (after .identify (atPort .command (st .ready))).port.reply = [0x80, 0x15, 0x3E, 0x0C, 0x7A, 1, 5, 12] := by decide
theorem test_readStatus_reply_length :
    (after .readStatus (atPort .command (running 5))).port.reply.length = 29 ∧
      (after .readStatus (atPort .command (running 0x123456))).port.reply.drop 15 =
        [0x56, 0x34, 0x12, 0, 0, 0, 0, 0, 0, 0, 0, 0, 0, 0] := by decide
theorem test_readCounters_reply_length :
    (after .readCounters (atPort .command (running 5))).port.reply.length = 55 := by decide
theorem test_setAlertMask_masks_POR :
    (atPort .command (st .ready)).alert = true ∧
      (after (.setAlertMask 1) (atPort (.arguments .setAlertMask) (st .ready))).alert = false ∧
      (after (.setAlertMask 2) (atPort (.arguments .setAlertMask) (st .ready))).alert = true := by decide
theorem test_readFaults_then_rise_clears_POR :
    (after .scsRise (after .lastReplyByteClockedOut (after .readFaults (atPort .command (st .ready))))).faults.flags = 0 := by
  decide
theorem test_readFaults_reply :
    (after .readFaults (atPort .command (st .ready))).port.reply = [0x80, 1, 0, 0, 0, 0, 0, 0] := by decide
theorem test_scsRise_early_clears_nothing :
    (after .scsRise (after .readFaults (atPort .command (st .ready)))).faults.flags = 1 := by decide
theorem test_scsFall_opens : (after .scsFall (st .ready)).port.phase = .command := by decide
theorem test_commandByteReceived_awaits :
    (after (.commandByteReceived .readGap) (atPort .command (st .ready))).port.phase = .arguments .readGap := by decide
theorem test_lastReplyByteClockedOut_done :
    (after .lastReplyByteClockedOut (atPort .reply (st .ready))).port.phase = .done := by decide
/-- SDO in each state of a transaction (R170). -/
theorem test_sdo :
    (st .ready).sdo 0 = none ∧ (atPort .command (st .ready)).sdo 0 = some 0 ∧
      (after .identify (atPort .command (st .ready))).sdo 0 = some 0x80 ∧
      (after .identify (atPort .command (st .ready))).sdo 7 = some 12 ∧
      (after .lastReplyByteClockedOut (after .identify (atPort .command (st .ready)))).sdo 0 = some 0 := by decide
/-- The command bytes of R186's table, and the byte after them. -/
theorem test_commandOf :
    [0x00, 0x01, 0x02, 0x05, 0x0A, 0x0B, 0x0C, 0x0D].map commandOf =
      [.unknownCommand 0x00, .identify, .commandByteReceived .loadConfig, .commandByteReceived .setAlertMask,
        .commandByteReceived .rearmMarkers, .stopRun, .softReset, .unknownCommand 0x0D] := by decide
theorem test_unknownCommand_reply :
    (after (.unknownCommand 0x0D) (atPort .command (st .ready))).port.reply = [0x83] := by decide
/-- The TRAILER fields of 11 as READ SEGMENT shows them: segment 12 of 05, after event 2. -/
theorem test_readSegment_record :
    (after (.readSegment 12)
      { atPort (.arguments .readSegment) (st .run) with
        table :=
          { head := 12
            live :=
              [{ origin := 3, seq := 9, cause := .boundary (.localLine 0), start := 5120000, ending := some 5199871,
                 dataFrames := 38 }] } }).port.reply =
      [0x80, 2, 1, 3, 16, 9, 0, 0x00, 0x20, 0x4E, 0, 0, 0, 0xFF, 0x57, 0x4F, 0, 0, 0, 0, 0, 0, 0, 0, 0, 38, 0, 0, 0] ++
        zeros 15 := by decide
/-- The head entry of the worked sequence of 03. -/
theorem test_readGap_record :
    (after (.readGap 0)
      { atPort (.arguments .readGap) (st .run) with
        gaps := { entries := [{ first := 3584000, count := 1024, cause := .ringFull, isOpen := false }] } }).port.reply =
      [0x80, 2, 3, 0, 0, 0x00, 0xB0, 0x36, 0, 0, 0, 0x00, 0x04] ++ zeros 18 := by decide
/-- Station 7 before tick t0 in the worked sequence of 08. -/
theorem test_readPeer_record :
    (after (.readPeer 7)
      { atPort (.arguments .readPeer) (st .run) with
        presence :=
          { peers := List.replicate 6 {} ++
              [{ phase := .stale, demand := 3, runTag := 41, rateClass := 0, age := 12 }] } }).port.reply =
      [0x80, 2, 3, 0, 0, 41, 0, 12] ++ zeros 9 := by decide
theorem test_readPeer_own_address_is_zero :
    (after (.readPeer 5) (atPort (.arguments .readPeer) (st .run))).port.reply = 0x80 :: zeros 16 := by decide
theorem test_stopRun_outside_run_refused :
    (after .stopRun (atPort .command (st .flush 9))).port.reply = [0x81] := by decide
theorem test_stopRun_in_run_ends_it :
    (after .stopRun (atPort .command (running 1))).intake.ending = some 1 ∧
      (after .stopRun (atPort .command (running 1))).port.reply = [0x80] := by decide +kernel
theorem test_softReset_keeps_start_count :
    (after .softReset (atPort .command (running 9))).station.startCount = 12 ∧
      (after .softReset (atPort .command (running 9))).station.phase = .unconfigured ∧
      (after .softReset (atPort .command (running 9))).spine.hold.notJoined = true := by decide
/-- MK2 at 30.000 µs in the worked sequence of 04. -/
theorem test_rearmMarkers_arms_named_line :
    (after (.rearmMarkers 4)
      (onLine 2 { phase := .latched, latch := true } (atPort (.arguments .rearmMarkers) (running 9)))).markers.lines.mk2 =
      { phase := .armed } := by decide

/-! ### Configuration and runs (09) -/

/-- A record: version 1, n = 4, rate class 0, spine rate 1, payload code 1, hold code 1, LATCHED, MK0 as code 1 AUTO. -/
def record (payloadCode : Byte) (channelCode : Byte) : Vector Byte 16 :=
  #v[1, channelCode, 0, 1, payloadCode, 1, 0, 0, 0x15, 0, 0x03, 0, 0, 0, 0, 0]

/-- The station awaiting the record. -/
def loading : State := atPort (.arguments .loadConfig) State.reset

theorem test_loadConfig_accepts :
    (after (.loadConfig (record 1 2) 5) loading).station.phase = .joining ∧
      (after (.loadConfig (record 1 2) 5) loading).station.config = some cfg ∧
      (after (.loadConfig (record 1 2) 5) loading).station.incarnation = 1 := by decide
theorem test_loadConfig_payload_too_small :
    (after (.loadConfig (record 0 3) 5) loading).port.reply = [0x82, 2] ∧
      (after (.loadConfig (record 0 3) 5) loading).station.phase = .unconfigured ∧
      (after (.loadConfig (record 0 3) 5) loading).faults.flags = 5 := by decide
/-- A refused record samples the straps all the same: the entry at the new own address 7 is ABSENT (R118, R146). -/
theorem test_loadConfig_clears_own_entry :
    let s := { atPort (.arguments .loadConfig) (running 9) with
      presence := { (running 9).presence with peers := List.replicate 14 { phase := .live, demand := 3 } } }
    (after (.loadConfig (record 1 2) 7) s).presence.peers.getD 6 { phase := .live } = {} ∧
      (after (.loadConfig (record 1 2) 7) s).spine.ownAddress = some 7 := by decide +kernel
theorem test_startEdge_begins_run :
    (after .startEdge (st .done 9)).station.phase = .run ∧ (after .startEdge (st .done 9)).runTag = 13 ∧
      (after .startEdge (st .done 9)).table.live = [{ origin := 0, seq := 0, cause := .runStart, start := 0 }] := by decide
theorem test_startEdge_missed :
    (after .startEdge (running 9)).runTag = 12 ∧ (after .startEdge (running 9)).station.startCount = 13 ∧
      (after .startEdge (running 9)).faults.flags = 3 := by decide
theorem test_stopEdge_held_at_point_0 :
    (after .stopEdge (running 0)).intake.stopHeld = true ∧ (after .stopEdge (running 0)).station.phase = .run := by decide
theorem test_stopEdge_stages_partial_block :
    (after .stopEdge { running 1 with intake := { (running 1).intake with filling := [[1], [2], [3], [4]] } }).memory.staging =
      [{ number := 0, fill := 1, samples := [[1], [2], [3], [4]] }] := by decide +kernel
theorem test_flushComplete_done :
    (after .flushComplete (st .flush 512)).station.phase = .done ∧
      (after .flushComplete (withFrames 1 (st .flush 512))).station.phase = .flush := by decide

/-! ### Intake and gaps (01, 03) -/

theorem test_sampleSet_taken :
    (after (.sampleSetTaken (lanes 7)) (running 0)).intake.point = 1 ∧
      (after (.sampleSetTaken (lanes 7)) (running 0)).intake.filling = [[7], [7], [7], [7]] := by decide +kernel
/-- Block 1953 of 01: its lane-fault mark is set, so it is dropped with cause LANE; 512 samples to the Gap List. -/
theorem test_sampleSet_drops_marked_block :
    (after (.sampleSetTaken (lanes 7))
      { withFrames 4 (running 1000447) with
        intake := { (running 1000447).intake with laneMark := true } }).gaps.entries =
      [{ first := 999936, count := 512, cause := .lane, isOpen := true }] := by decide +kernel
theorem test_laneAlignmentChange_faults :
    (after (.laneAlignmentChange 3 true) (running 9)).faults.flags = 65 ∧
      (after (.laneAlignmentChange 4 true) (running 9)).faults.flags = 1 := by decide
/-- The held overrun of 03: with 32 entries, blocks 8002, 8003 and 8004 go to the held part of the newest. -/
theorem test_heldOverrun :
    ((((List.replicate 31 ({ first := 0, count := 1, cause := .lane, isOpen := false } : GapEntry) ++
          [{ first := 4096000, count := 512, cause := .portBusy, isOpen := false }] |> fun es =>
        ({ entries := es } : GapList).decided (.drop .portBusy) 4097024 512).decided .held 4097536 512).decided .held
          4098048 512).entries.getLast?.bind GapEntry.heldPart) = some ⟨4097024, 1536⟩ := by decide

/-! ### Marker lines (04) -/

theorem test_markerEdge_notes_index :
    (after (.markerEdge 0) (onLine 0 { phase := .armed } (running 40000000))).markers.lines.mk0 =
      { phase := .qualifying, noted := some 39999999, timing := some 1024 } := by decide
theorem test_markerInactiveLevel_starts_recovery :
    (after (.markerInactiveLevel 0) (onLine 0 { phase := .latched, latch := true } (running 9))).markers.lines.mk0 =
      { phase := .recovering, latch := true, timing := some 1024 } := by decide
theorem test_markerInactiveLevel_manual_stays :
    (after (.markerInactiveLevel 2) (onLine 2 { phase := .latched, latch := true } (running 9))).markers.lines.mk2 =
      { phase := .latched, latch := true } := by decide
theorem test_markerActiveInRecovery_latches :
    (after (.markerActiveInRecovery 0)
      (onLine 0 { phase := .recovering, latch := true, timing := some 1024 } (running 9))).markers.lines.mk0 =
      { phase := .latched, latch := true } := by decide
theorem test_markerRecoveryEnd_arms :
    (after (.markerRecoveryEnd 0)
      (onLine 0 { phase := .recovering, latch := true, timing := some 1024 } (running 9))).markers.lines.mk0 =
      { phase := .armed } := by decide

/-- MK0 about to qualify at 1.024 µs in the worked sequence of 04, with the frame part full. -/
def qualifying : State :=
  onLine 0 { phase := .qualifying, noted := some 39999999, timing := some 1024 } (withFrames 4 (running 40000256))

theorem test_markerQualify_accepts :
    (after (.markerQualify 0 1024) qualifying).markers.window = [1024] ∧
      (after (.markerQualify 0 1024) qualifying).markers.lastSeq = 1 ∧
      (after (.markerQualify 0 1024) qualifying).markers.nextSeq = 2 := by decide +kernel
theorem test_markerQualify_cuts_segment :
    (after (.markerQualify 0 1024) qualifying).table.live =
      [{ origin := 0, seq := 0, cause := .runStart, start := 0, ending := some 39999998 },
        { origin := 5, seq := 1, cause := .boundary (.localLine 0), start := 39999999 }] := by decide +kernel
theorem test_markerWindowLeave_after_1ms :
    (after (.markerWindowLeave 1001024) { running 9 with markers := { window := [1024, 2000] } }).markers.window = [2000] ∧
      (after (.markerWindowLeave 1001023) { running 9 with markers := { window := [1024, 2000] } }).markers.window =
        [1024, 2000] := by decide

/-! ### Boundaries (05) -/

/-- Station 3 of the worked sequence of 05 just after event 1, with requests queued. -/
def boundaryState (point : Nat) (queue : List Request) : State :=
  { withFrames 4 (running point) with
    assembler := { drain := 5199872 }
    table :=
      { queue := queue, head := 12,
        live := [{ origin := 3, seq := 9, cause := .boundary (.localLine 0), start := 5120000, dataFrames := 38 }] } }

theorem test_boundaryApply_clamps :
    (after .boundaryApply (boundaryState 5200350 [⟨8, 41, 5199500, .peerLine 2⟩])).table.live =
      [{ origin := 3, seq := 9, cause := .boundary (.localLine 0), start := 5120000, ending := some 5199871,
         dataFrames := 38 },
       { origin := 8, seq := 41, cause := .boundary (.peerLine 2), start := 5199872, requested := some 5199500 }] ∧
      (after .boundaryApply (boundaryState 5200350 [⟨8, 41, 5199500, .peerLine 2⟩])).counters.clamped = 1 := by
  decide +kernel
theorem test_boundaryApply_waits_then_applies :
    (after .boundaryApply (boundaryState 5200450 [⟨14, 3, 5200450, .peerLine 0⟩])).table.queue.length = 1 ∧
      (after .boundaryApply (boundaryState 5200451 [⟨14, 3, 5200450, .peerLine 0⟩])).table.queue = [] := by
  decide +kernel

/-! ### Capture memory (02) -/

/-- The port with an operation in progress and some blocks staged. -/
def portWith (op : PortOp) (owed : Int) (staged : Nat) : State :=
  { withFrames 4 (running 512) with
    memory :=
      { (running 512).memory with
        owed := owed, op := some { op := op }, staging := (List.range staged).map block, readRequest := some 0 } }

/-- Event 4 of the write burst of 02: at owed +8 the completion grants a forced refresh. -/
theorem test_blockWriteComplete_then_forced :
    (after .blockWriteComplete (portWith .write 8 4)).memory.op = some { op := .refresh .forced } ∧
      (after .blockWriteComplete (portWith .write 8 4)).counters.forcedRefresh = 1 ∧
      (after .blockWriteComplete (portWith .write 8 4)).memory.storedCount = 1 := by decide +kernel
/-- The write of block 3,000,006 at the wrap of 02's ring, here at the last slot of n = 4. -/
theorem test_blockWriteComplete_wraps :
    (after .blockWriteComplete
      { portWith .write 0 1 with
        memory := { (portWith .write 0 1).memory with writeSlot := 4194303 } }).memory.writeSlot = 0 := by decide +kernel
/-- Event 7 of 02's write burst: owed falls to +7 and row 2 grants the write. -/
theorem test_refreshComplete_grants_write :
    (after .refreshComplete (portWith (.refresh .forced) 8 4)).memory.owed = 7 ∧
      (after .refreshComplete (portWith (.refresh .forced) 8 4)).memory.op = some { op := .write } := by decide +kernel
theorem test_refreshExpiry_counts :
    (after .refreshExpiry (portWith .write 6 5)).memory.owed = 7 ∧
      (after .refreshExpiry (portWith (.refresh .forced) 8 3)).counters.lateRefresh = 1 ∧
      (after .refreshExpiry (portWith (.refresh .forced) 8 3)).memory.owed = 8 := by decide
theorem test_thermalReading_hysteresis :
    (after (.thermalReading 85) (running 9)).memory.thermal = .hot ∧
      (after (.thermalReading 84) (running 9)).memory.thermal = .normal ∧
      (after (.thermalReading 95) (running 9)).faults.flags = 1537 := by decide

/-! ### Frame assembly (06, 11) -/

/-- A DATA frame in assembly over the whole of block 0, whose read is in progress. -/
def reading (level : Level) : State :=
  { withFrames 3 (running 600) with
    memory :=
      { (running 600).memory with
        dram := [(0, { block := block 0 })], writeSlot := 1, storedCount := 1, op := some { op := .read }
        readRequest := some 0 }
    assembler :=
      { drain := 512
        phase :=
          .assembling
            { first := 0, last := 511, level := level, origin := 0, seq := 0, position := 1, next := 0,
              gathered := List.replicate 4 [] } } }

theorem test_blockReadComplete_places_frame :
    (after (.blockReadComplete 0 false) (reading 4)).spine.frames.length = 4 ∧
      (after (.blockReadComplete 0 false) (reading 4)).memory.storedCount = 0 ∧
      (after (.blockReadComplete 0 false) (reading 4)).assembler.phase = .idle := by decide +kernel
theorem test_blockReadComplete_memory_error :
    (after (.blockReadComplete 0 true) (reading 4)).counters.uncorrectable = 1 ∧
      ((after (.blockReadComplete 0 true) (reading 4)).spine.frames.getLast?.map Frame.body) =
        some (.gap 0 512 .memory false) := by decide +kernel

/-- Segment 12 of 05 and 11, CLOSED and drained, with 2,550 frames placed before. -/
def trailerDue : State :=
  { withFrames 3 (running 5200451) with
    assembler := { drain := 5199872, frameSeq := 2550 }
    spine := { (withFrames 3 (running 5200451)).spine with ownAddress := some 3 }
    station :=
      { (running 5200451).station with capturedTag := 7, config := some { cfg with rateClass := 3 } }
    table :=
      { head := 12
        live :=
          [{ origin := 3, seq := 9, cause := .boundary (.localLine 0), start := 5120000, ending := some 5199871,
             dataFrames := 39, levels := some ⟨0, 0⟩ },
           { origin := 8, seq := 41, cause := .boundary (.peerLine 2), start := 5199872, requested := some 5199500 }] } }

/-- The TRAILER's bytes as 11 gives them (the device number's bytes apart). -/
theorem test_trailerPlace_bytes :
    ((after .trailerPlace trailerDue).spine.frames.getLast?.map fun f =>
      let u := frameHeader f
      u.take 4 ++ u.drop 9) =
      some ([3, 0, 3, 0] ++ [3, 7, 0, 0, 0, 0, 0, 0xF6, 9, 0, 0, 3, 2, 9, 0, 0x00, 0x20, 0x4E, 0, 0, 0, 0xFF, 0x57,
        0x4F, 0, 0, 0] ++ zeros 6 ++ [0x27, 0, 0, 0] ++ zeros 14) := by decide +kernel
theorem test_trailerPlace_head_advances : (after .trailerPlace trailerDue).table.head = 13 := by decide +kernel

/-- The drain point of 03's worked sequence at the head entry, which is settled. -/
def gapDue : State :=
  { withFrames 3 (running 4099000) with
    assembler := { drain := 3584000 }
    gaps := { entries := [{ first := 3584000, count := 1024, cause := .ringFull, isOpen := false }] } }

theorem test_gapFramePlace_covers_entry :
    ((after .gapFramePlace gapDue).spine.frames.getLast?.map Frame.body) =
      some (.gap 3584000 1024 (.drop .ringFull) false) ∧
      (after .gapFramePlace gapDue).assembler.drain = 3585024 ∧ (after .gapFramePlace gapDue).gaps.entries = [] := by
  decide +kernel

/-- Span selection of 06: n = 4, Q = 8,192, level 2, drain point 1,000,004, data limit 1,005,055. -/
theorem test_dataSpan_of_06 : spanEnd 4 8192 2 1000004 1005055 = 1004031 ∧ payloadBytes 4 2 1000004 1004031 = 8064 := by
  decide +kernel

/-- Two stored blocks behind the drain point, and the segment closed. -/
def dataDue : State :=
  { withFrames 3 (running 1100) with
    memory :=
      { (running 1100).memory with
        dram := [(0, { block := block 0 }), (1, { block := block 1 })], writeSlot := 2, storedCount := 2 }
    table :=
      { live := [{ origin := 0, seq := 0, cause := .runStart, start := 0, ending := some 1023 },
          { origin := 5, seq := 1, cause := .boundary (.localLine 0), start := 1024 }] } }

theorem test_dataFrameStart_requests_first_block :
    (after .dataFrameStart dataDue).assembler.drain = 1024 ∧
      (after .dataFrameStart dataDue).memory.readRequest = some 0 ∧
      (after .dataFrameStart dataDue).memory.op = some { op := .read } := by decide +kernel

/-- A MEMORY gap that waits for a frame slot. -/
def memoryGapWaits (count : Nat) : State :=
  { withFrames count (running 1100) with
    assembler := { drain := 512, frameSeq := 9, phase := .pending { first := 0, count := 512, origin := 0, seq := 0 } } }

theorem test_memoryGapPlace_places :
    ((after .memoryGapPlace (memoryGapWaits 3)).spine.frames.getLast?.map Frame.body) =
      some (.gap 0 512 .memory false) ∧
      (after .memoryGapPlace (memoryGapWaits 4)).assembler.drain = 512 := by decide +kernel
theorem test_flushAgeExpiry_expires :
    (after .flushAgeExpiry
      { withFrames 4 (running 9) with assembler := { flushTimer := .running } }).assembler.flushTimer = .expired := by
  decide +kernel
/-- The pair of 06 in the layout of 11: (-120, 37) is 88 FF 25 00. -/
theorem test_reduction_of_06 :
    payloadOf [reduceSamples 8 4 none [BitVec.ofInt 16 (-120), 37, 15, BitVec.ofInt 16 (-4)]] = [0x88, 0xFF, 0x25, 0] := by
  decide

/-! ### The spine (07, 11) -/

theorem test_crc_check_value : crc32 [0x31, 0x32, 0x33, 0x34, 0x35, 0x36, 0x37, 0x38, 0x39] = 0xCBF43926 := by
  decide +kernel

/-- Time 33,056 of 07: T1 is being forwarded, T2 has ended. -/
def fullTransit : State :=
  { running 9 with
    spine :=
      { (running 9).spine with
        port := .forwarding
        transit :=
          [{ header := bigHeader, length := 16448, received := 16448, sent := 160, ended := true },
           { header := bigHeader, length := 16448, received := 16448, ended := true }] } }

/-- T3 meets 16,288 + 16,448 + 16,448 = 49,184 bytes and is discarded; 32 bytes sent more and it is accepted. -/
theorem test_unitHeaderArrival_overflow :
    (after (.unitHeaderArrival (asHeader bigHeader) 160) fullTransit).counters.overflow = 1 ∧
      (after (.unitHeaderArrival (asHeader bigHeader) 192) fullTransit).counters.overflow = 0 := by decide +kernel
theorem test_unitHeaderArrival_orphan :
    ((after (.unitHeaderArrival (asHeader (mapNth (fun _ => 15) 1 bigHeader)) 0) (running 9)).spine.input.map Arrival.fate) =
      some .strippedOrphan := by decide +kernel
theorem test_unitEnd_runt :
    (after (.unitEnd []) (running 9)).counters.checkError = 1 := by decide +kernel
/-- A unit one byte longer than its declared length is not received whole (R119), so it is not good (R133). -/
theorem test_unitEnd_long :
    (after (.unitEnd (tail (ingestHeader 4 1) ++ [0]))
      (arriving (ingestHeader 4 1) .accepted (running 9))).counters.checkError = 1 := by decide +kernel
/-- The return of a presence note of incarnation 6 in JOINING (08): READY, and the return counter 0. -/
theorem test_return_joins :
    let s := { st .joining with presence := { ticking := true, returnCounter := 1 } }
    (ownUnit (noteHeader (presenceNote s.unitOrigin 0)) s).station.phase = .ready ∧
      (ownUnit (noteHeader (presenceNote s.unitOrigin 0)) s).presence.returnCounter = 0 := by decide +kernel
/-- Station 9's note with another run tag is MISMATCHED, and station 7's with the own one LIVE (08, between t0 and t1). -/
theorem test_peer_note_judged :
    ((handOn (noteHeader (presenceNote (peerOrigin 7) 3)) (running 9)).presence.peers.getD 6 {}).phase = .live ∧
      ((handOn (noteHeader (presenceNote { peerOrigin 9 with runTag := 40 } 4)) (running 9)).presence.peers.getD 8
        {}).phase = .mismatched := by decide +kernel
theorem test_forwardingEnd_frees :
    (after (.forwardingEnd [])
      { fullTransit with
        spine :=
          { fullTransit.spine with notes := [presenceNote (st .run).unitOrigin 0] } }).spine.port =
      .insertingNote (presenceNote (st .run).unitOrigin 0) := by decide +kernel
/-- A long unit's forwarding may end before its end mark: it has left whole, hop count raised, bytes as received. -/
theorem test_forwardingEnd_long_unit :
    let h := ingestHeader 4 1
    let s := arriving h .accepted (running 9)
    (after (.forwardingEnd [1, 2, 3, 4, 5]) { s with spine := { s.spine with port := .forwarding } }).spine.lastSent =
      some (mapNth (· + 1) 1 h ++ [1, 2, 3, 4]) := by decide +kernel
theorem test_noteInsertionEnd_forwards :
    (after (.noteInsertionEnd [])
      { fullTransit with
        spine :=
          { fullTransit.spine with port := .insertingNote (presenceNote (st .run).unitOrigin 0) } }).spine.port =
      .forwarding := by decide +kernel
/-- Time 16,448 of 07: F1 completes with 16,348 bytes of T1 in, and F2 goes before it. -/
theorem test_frameInsertionComplete_next_frame :
    (after (.frameInsertionComplete (zeros 16288))
      { running 0 with
        spine :=
          { (running 0).spine with
            port := .insertingFrame, frames := frames 2
            input := some { header := bigHeader, fate := .accepted }
            transit := [{ header := bigHeader, length := 16448, received := 60 }] } }).spine.port =
      .insertingFrame := by decide +kernel
/-- Time 32,896 of 07: F2 completes with 32,796 bytes held, above the threshold: T1 is forwarded. -/
theorem test_frameInsertionComplete_threshold :
    (after (.frameInsertionComplete (zeros 16288))
      { running 0 with
        spine :=
          { (running 0).spine with
            port := .insertingFrame, frames := frames 1
            input := some { header := bigHeader, fate := .accepted }
            transit :=
              [{ header := bigHeader, length := 16448, received := 16448, ended := true },
               { header := bigHeader, length := 16448, received := 60 }] } }).spine.port =
      .forwarding := by decide +kernel

/-! ### Presence (08) -/

/-- Station 5 just before tick t0 of 08. -/
def beforeT0 : State :=
  { running 9 with
    memory := { (running 9).memory with storedCount := 2411725 }
    station := { (running 9).station with capturedTag := 41 }
    presence :=
      { ticking := true, joined := true, demand := 1, holdCounter := 9
        ingest := some { seq := 0, level := 1, hold := false, age := 1 }
        peers :=
          [{}, {}, { phase := .live, demand := 1, runTag := 41, age := 0 }, {}, {}, {},
           { phase := .stale, demand := 3, runTag := 41, age := 12 }, {},
           { phase := .mismatched, demand := 4, runTag := 40, age := 1 }, {}, {}, {}, {}, {}] } }

theorem test_paceTick_t0 :
    (after .paceTick beforeT0).presence.fill = 575 ∧ (after .paceTick beforeT0).presence.demand = 2 ∧
      (after .paceTick beforeT0).presence.holdCounter = 0 ∧ (after .paceTick beforeT0).presence.effective = 2 := by
  decide +kernel
/-- The fill permille of 09's two stations, and the lowering at tick u0 of 08 (f 398 at level 3, hold 16). -/
theorem test_paceTick_u0 :
    let s := { beforeT0 with
      memory := { beforeT0.memory with storedCount := 1670000 }
      presence := { beforeT0.presence with demand := 3, holdCounter := 16 } }
    (after .paceTick s).presence.fill = 398 ∧ (after .paceTick s).presence.demand = 2 ∧
      (after .paceTick s).presence.holdCounter = 0 := by decide +kernel

/-- The station with one peer entry at address 3, an ingest record and a return counter. -/
def aging (peer : PeerEntry) (ingestAge returns : Nat) : State :=
  { running 9 with
    spine := { (running 9).spine with hold := { notJoined := false, archiveHold := true } }
    presence :=
      { ticking := true, returnCounter := returns, ingest := some ⟨1, 1, true, ingestAge⟩
        peers := (List.replicate 14 {}).set 2 peer }
    faults := { flags := 0x1F1679 } }

theorem test_peerStaleExpiry :
    ((after (.peerStaleExpiry 3) (aging { phase := .live, age := 8 } 0 0)).presence.peers.map PeerEntry.phase).getD 2 .absent =
      .stale := by decide +kernel
theorem test_peerAbsentExpiry :
    (after (.peerAbsentExpiry 3) (aging { phase := .stale, age := 64, demand := 3 } 0 0)).presence.peers.getD 2 {} = {} := by
  decide +kernel
theorem test_ingestAgeOut :
    (after .ingestAgeOut (aging {} 8 0)).presence.ingest = none ∧
      (after .ingestAgeOut (aging {} 8 0)).spine.hold.archiveHold = false := by decide +kernel
theorem test_ringOpen :
    (after .ringOpen (aging {} 0 8)).spine.hold.ringOpen = true ∧
      (after .ringOpen (aging {} 0 7)).spine.hold.ringOpen = false := by decide +kernel

/-! ### Witnesses: the hypotheses of each obligation are met together, at the boundary values of its clauses -/

/-- A state of RESET# asserted. -/
def held : State := { State.reset with resetHeld := true }

/-- A state with a command at the front of its queue. -/
def waiting (c : Instr) (s : State) : State := { s with pending := [c] }

theorem witness_ResetsStartAfresh :
    held.resetHeld = true ∧ (∀ straps, Instr.identify ≠ .powerOn straps) ∧ Instr.identify ≠ .resetAssert ∧
      (∀ straps, Instr.identify ≠ .resetRelease straps) ∧ ∀ lane out, Instr.identify ≠ .laneAlignmentChange lane out :=
  ⟨rfl, nofun, nofun, nofun, nofun⟩
theorem witness_SoftResetAbandons :
    (atPort .command (running 9)).resetHeld = false ∧ (atPort .command (running 9)).port.phase = .command := by decide
theorem witness_TransactionMoves :
    (atPort .command (running 9)).resetHeld = false ∧ (atPort .command (running 9)).flagsFollow ∧
      (running 9).flagsFollow ∧ (running 9).port.phase = .idle ∧ (atPort .reply (running 9)).flagsFollow ∧
      (0 : Byte) = 0 ∧ 12 < (13 : Byte).toNat ∧ (atPort .done (running 9)).flagsFollow ∧ held.resetHeld = true ∧
      0 < (after .identify (atPort .command (running 9))).port.reply.length ∧
      (after .identify (atPort .command (running 9))).port.phase = .reply := by decide
theorem witness_IdentifyAndStatusReplies :
    (atPort .command (running 9)).resetHeld = false ∧ (atPort .command (running 9)).flagsFollow ∧
      (atPort .command (running 9)).port.phase = .command := by decide
theorem witness_TableReads :
    (running 9).resetHeld = false ∧ (atPort (.arguments .readSegment) (running 9)).flagsFollow ∧
      (running 9).table.head = 1 ∧ (running 9).table.live[((1 : Byte).toNat + 63 - 1) % 63]?.isSome = true ∧
      (running 9).table.live[((63 : Byte).toNat + 63 - 1) % 63]? = none ∧ beforeT0.presence.ingest.isSome = true ∧
      63 < (64 : Byte).toNat ∧ (63 : Byte).toNat ≤ 63 ∧
      gapDue.gaps.entries[(0 : Byte).toNat]? =
        some { first := 3584000, count := 1024, cause := .ringFull, isOpen := false } ∧
      gapDue.gaps.entries.length ≤ (1 : Byte).toNat ∧ gapDue.flagsFollow ∧
      (running 9).spine.ownAddress = some (5 : Byte) ∧ (running 9).spine.ownAddress ≠ some (14 : Byte) ∧
      (running 9).presence.peers[(14 : Byte).toNat - 1]? = some {} ∧ 15 ≤ (15 : Byte).toNat := by decide +kernel
theorem witness_FaultReadAndMask :
    (atPort .command (running 9)).flagsFollow ∧ (atPort (.arguments .setAlertMask) (running 9)).flagsFollow ∧
      (atPort .done (running 9)).flagsFollow ∧ (atPort .done (running 9)).resetHeld = false := by decide
theorem witness_RearmMarkersReachesNamedLines :
    let s := onLine 2 { phase := .latched, latch := true } (atPort (.arguments .rearmMarkers) (running 9))
    s.resetHeld = false ∧ s.flagsFollow ∧ s.port.phase = .arguments .rearmMarkers ∧
      (4 : Byte).getLsbD 2 = true ∧ (s.enabledSetup 2).isSome = true ∧ (s.markers.lines.get 2).latch = true := by decide
theorem witness_ConfigurationAccepted :
    loading.resetHeld = false ∧ loading.flagsFollow ∧ loading.port.phase = .arguments .loadConfig ∧
      loading.station.phase = .unconfigured ∧
      byteAt (record 1 3).toList 0 = 1 ∧ codesInRange (record 1 3).toList = true ∧ (byteAt (record 1 3).toList 3).toNat = 1 ∧
      byteAt (record 0 2).toList 0 = 1 ∧ codesInRange (record 0 2).toList = true ∧ (byteAt (record 0 2).toList 3).toNat = 1 ∧
      (byteAt (record 1 3).toList 1).toNat = 3 ∧ (byteAt (record 1 3).toList 4).toNat = 1 ∧
      1024 * 2 ^ 3 ≤ 4096 * 2 ^ 1 ∧ (byteAt (record 0 2).toList 1).toNat = 2 ∧
      (byteAt (record 0 2).toList 4).toNat = 0 ∧ 1024 * 2 ^ 2 ≤ 4096 * 2 ^ 0 ∧
      (∀ straps ∈ [(1 : BitVec 4), 14], 1 ≤ straps.toNat ∧ straps.toNat ≤ 14) ∧ loading.memory.op = none ∧
      loading.memory.staging = [] ∧ loading.memory.readRequest = none := by decide +kernel
theorem witness_ConfigurationRefused :
    loading.flagsFollow ∧ loading.station.phase = .unconfigured ∧
      (atPort (.arguments .loadConfig) (st .joining)).flagsFollow ∧
      (recordRejection (#v[2, 0, 0, 0, 0, 0, 0, 0, 0, 0, 0, 0, 0, 0, 0, 0] : Vector Byte 16).toList 5) = .badCode ∧
      (recordRejection (record 0 2).toList 15) = .badAddress ∧
      (recordRejection (#v[1, 0, 0, 0, 2, 0, 0, 0, 0, 0, 0, 0, 0, 0, 0, 0] : Vector Byte 16).toList 5) =
        .reservedCombination ∧
      (recordRejection (record 0 3).toList 5) = .payloadTooSmall := by decide +kernel
theorem witness_StartMissed :
    State.reset.flagsFollow ∧ State.reset.station.phase = .unconfigured ∧ (running 9).flagsFollow ∧
      (running 9).station.phase = .run ∧ (st .flush 9).flagsFollow ∧ (st .flush 9).station.phase = .flush ∧
      (running 9).resetHeld = false := by decide
theorem witness_StartBeginsRun :
    (st .joining).flagsFollow ∧ (st .ready).flagsFollow ∧ (st .done).flagsFollow ∧ (st .done).resetHeld = false ∧
      (st .done).station.phase = .done ∧ (st .done).faults.mode = .latched := by decide
theorem witness_StopOutsideRunOrHeld :
    (atPort .command (st .ready)).flagsFollow ∧ (st .ready).station.phase ≠ .run ∧
      (atPort .command (running 0)).flagsFollow ∧ (running 0).station.phase = .run ∧ (running 0).intake.point = 0 := by
  decide
theorem witness_StopEndsTheRun :
    (atPort .command (running 1)).resetHeld = false ∧ (atPort .command (running 1)).station.phase = .run ∧
      (atPort .command (running 1)).intake.point ≠ 0 ∧ (atPort .command (running 1)).port.phase = .command ∧
      (running 512).intake.point % 512 = 0 ∧ decideBlock (running 1) = .stage ∧
      (running 1).table.live = [] ++ [{ origin := 0, seq := 0, cause := .runStart, start := 0 }] ∧
      (withFrames 4 (running 1)).spine.frames.length = 4 ∧ (withFrames 4 (running 1)).table.queue = [] ∧
      (∀ r ∈ (boundaryState 5200450 [⟨14, 3, 5200450, .peerLine 0⟩]).table.queue, 5200450 ≤ r.index) := by decide +kernel
theorem witness_FlushCompletes :
    (st .flush 512).resetHeld = false ∧ (st .flush 512).flagsFollow ∧ (st .flush 512).station.phase = .flush ∧
      (st .flush 512).memory.staging = [] ∧ (st .flush 512).memory.storedCount = 0 ∧
      (st .flush 512).gaps.entries = [] ∧ (st .flush 512).table.queue = [] ∧ (st .flush 512).table.live = [] ∧
      (st .flush 512).assembler.phase = .idle ∧ (st .flush 512).spine.frames = [] ∧
      (withFrames 1 (st .flush 512)).spine.frames ≠ [] := by decide
theorem witness_SampleSetWritten :
    (st .ready).intake.phase ≠ .taking ∧ (st .flush 9).intake.phase ≠ .taking ∧ (st .flush 9).flagsFollow ∧
      (running 510).resetHeld = false ∧ (running 510).flagsFollow ∧ (running 510).intake.phase = .taking ∧
      ((running 510).intake.point + 1) % 512 ≠ 0 ∧ (running 510).intake.stopHeld = false ∧
      (running 510).table.queue = [] := by decide
/-- A request one sample ahead waits on, and the one of the sample taken is applied. -/
theorem witness_SampleSetWritten_request :
    ∀ index ∈ [5200450, 5200451],
      let s := boundaryState 5200450 [⟨14, 3, index, .peerLine 0⟩]
      s.resetHeld = false ∧ s.flagsFollow ∧ s.intake.phase = .taking ∧ (s.intake.point + 1) % 512 ≠ 0 ∧
      s.intake.stopHeld = false ∧ s.station.phase = .run ∧ s.spine.frames.length = 4 ∧ s.table.live.length < 63 ∧
      s.table.live.getLast?.map Segment.start = some 5120000 ∧ max index (max 5120000 s.assembler.drain) = index ∧
      (decide (index ≤ s.intake.point) || decide (s.intake.point + 1 ≤ index)) = true := by decide +kernel
theorem witness_BlockDecided :
    (running 511).resetHeld = false ∧ (running 511).intake.phase = .taking ∧ ((running 511).intake.point + 1) % 512 = 0 ∧
      (running 511).intake.point + 1 ≠ 2 ^ 48 ∧ (running 511).intake.stopHeld = false ∧
      decideBlock (writeSample (lanes 1) (running 511)) = .stage ∧
      decideBlock (writeSample (lanes 1) { running 511 with memory := { (running 511).memory with storedCount := 4194304 } }) =
        .drop .ringFull ∧
      decideBlock (writeSample (lanes 1) (portWith .write 0 32)) = .drop .portBusy ∧
      decideBlock (writeSample (lanes 1) (portWith .write 0 31)) = .stage ∧
      (withFrames 4 (running 511)).spine.frames.length = 4 ∧ (running 511).memory.op = none ∧
      (running 511).memory.selfRefresh = false ∧ (portWith .write 0 31).memory.op.isSome = true := by decide +kernel
theorem witness_LastSampleEndsTheRun :
    (running (2 ^ 48 - 1)).resetHeld = false ∧ (running (2 ^ 48 - 1)).flagsFollow ∧
      (running (2 ^ 48 - 1)).intake.phase = .taking ∧ (running (2 ^ 48 - 1)).intake.point + 1 = 2 ^ 48 ∧
      (after .stopEdge (running 0)).flagsFollow ∧ (after .stopEdge (running 0)).intake.point = 0 ∧
      (after .stopEdge (running 0)).intake.stopHeld = true ∧ (after .stopEdge (running 0)).intake.phase = .taking ∧
      (withFrames 4 (running (2 ^ 48 - 1))).spine.frames.length = 4 ∧ (running 0).station.phase = .run ∧
      (running 0).table.live.map Segment.ending = [none] := by decide +kernel
theorem witness_LaneAlignmentTaken :
    (running 9).resetHeld = false ∧ (running 9).flagsFollow ∧ (running 9).channels = 4 := by decide
theorem witness_GapListLosesNoIndex :
    let e : GapEntry := { first := 0, count := 512, cause := .lane, isOpen := false }
    let full : GapList := { entries := List.replicate 32 e }
    full.entries.length = 32 ∧ (full.entries.getLast?.map GapEntry.heldPart) = some none ∧ full.entries ≠ [] ∧
      full.entries = e :: List.replicate 31 e ∧ 512 ≤ e.count := by decide
/-- Each case of R42 at its boundary: a merge right after the entry's end, an append one index on and at 31 entries, an
overrun at 32; a range consumed but for its last index, and wholly, with a held part and without. -/
theorem witness_GapListLosesNoIndex_cases :
    let e : GapEntry := { first := 0, count := 512, cause := .lane, isOpen := true }
    let h : GapEntry := { e with heldPart := some ⟨1024, 512⟩ }
    [e, e] = [e] ++ [e] ∧ e.isOpen = true ∧ e.heldPart = none ∧ e.first + e.count - 1 + 1 = 512 ∧
      e.finish + 1 ≠ 1024 ∧ h.finish + 1 = 1536 ∧ h.heldPart = some ⟨1024, 512⟩ ∧
      (List.replicate 31 e).length < 32 ∧ 32 ≤ (List.replicate 32 e).length ∧ 511 < e.count ∧ 512 = e.count := by decide
theorem witness_LineStates :
    (running 9).resetHeld = false ∧ (running 9).flagsFollow ∧ (running 9).station.phase = .run ∧
      (running 9).enabledSetup 0 = some autoLine ∧ autoLine.rearm = .auto ∧ (running 9).enabledSetup 2 = some manualLine ∧
      manualLine.rearm = .manual ∧ (running 9).enabledSetup 1 = none ∧
      (∀ phase ∈ [LinePhase.armed, .qualifying, .latched, .recovering],
        ((onLine 0 { phase := phase } (running 9)).markers.lines.get 0).phase = phase ∧
        (onLine 0 { phase := phase } (running 9)).flagsFollow) := by decide
theorem witness_MarkerAccepted :
    qualifying.resetHeld = false ∧ qualifying.station.phase = .run ∧ qualifying.enabledSetup 0 = some autoLine ∧
      (qualifying.markers.lines.get 0).phase = .qualifying ∧
      (qualifying.markers.lines.get 0).noted = some 39999999 ∧ qualifying.markers.window.length < 4 ∧
      qualifying.spine.notes.length < 8 ∧ qualifying.table.queue = [] ∧
      qualifying.table.live = [{ origin := 0, seq := 0, cause := .runStart, start := 0 }] ∧
      qualifying.spine.frames.length = 4 ∧ qualifying.assembler.drain ≤ 39999999 ∧ 39999999 < qualifying.intake.point := by
  decide
theorem witness_MarkerSuppressedAndWindow :
    let s := { qualifying with markers := { qualifying.markers with window := [0, 1, 2, 3] } }
    s.resetHeld = false ∧ s.flagsFollow ∧ s.enabledSetup 0 = some autoLine ∧ 4 ≤ s.markers.window.length ∧
      (s.markers.lines.get 0).phase = .qualifying ∧ (s.markers.lines.get 0).noted = some 39999999 ∧
      s.markers.window = 0 :: [1, 2, 3] ∧ 0 + 1000000 ≤ 1000000 ∧ 999999 < 0 + 1000000 := by decide
theorem witness_RequestsStayInOrder :
    let r : Request := ⟨2, 5, 5200600, .peerLine 0⟩
    let s := boundaryState 5200420 [r]
    (∃ q ∈ s.table.queue, q.origin = r.origin ∧ q.seq = r.seq) ∧
      (boundaryState 5200420 (List.replicate 8 r)).table.queue.length = 8 ∧
      (∀ q ∈ s.table.queue, ¬(q.origin = 14 ∧ q.seq = 3)) ∧ (∀ g ∈ s.table.live, ¬(g.origin = 14 ∧ g.seq = 3)) ∧
      s.table.queue.length < 8 ∧ [r, r].Pairwise (fun x y => x.index ≤ y.index) ∧
      (∀ q ∈ s.table.queue.head?, 5200599 < q.index) ∧ (boundaryState 5200420 []).table.queue.head? = none := by decide
/-- The six clauses: no segment, waiting at the limit, coincident, a full table, applied below the limit, and clamped. -/
theorem witness_BoundaryConsidered :
    (boundaryState 5200450 [⟨14, 3, 5200450, .peerLine 0⟩]).resetHeld = false ∧
      (st .flush 9).table.live = [] ∧ (boundaryState 5200450 []).table.queue = [] ∧
      (boundaryState 5200450 []).table.live =
        [] ++ [{ origin := 3, seq := 9, cause := .boundary (.localLine 0), start := 5120000, dataFrames := 38 }] ∧
      (boundaryState 5200450 []).table.live.getLast?.map Segment.start = some 5120000 ∧
      max 5200450 (max 5120000 (boundaryState 5200450 []).assembler.drain) = (boundaryState 5200450 []).intake.point ∧
      max 5200450 (max 5120000 (boundaryState 5200451 []).assembler.drain) < (boundaryState 5200451 []).intake.point ∧
      max 5199500 (max 5199872 (boundaryState 5200350 []).assembler.drain) = 5199872 ∧
      max 5199500 (max 5120000 (boundaryState 5200350 []).assembler.drain) ≠ 5199500 ∧
      (List.replicate 63 ({ origin := 3, seq := 9, cause := .runStart, start := 5120000 } : Segment)).length = 63 ∧
      (st .flush 5200450).station.phase ≠ .run := by decide +kernel
theorem witness_BlockWriteStores :
    (portWith .write 0 1).resetHeld = false ∧ (portWith .write 0 1).memory.op = some { op := .write, stale := false } ∧
      (portWith .write 0 1).memory.staging = [block 0] ∧
      (portWith .write 0 1).memory.writeSlot + 1 < (portWith .write 0 1).capacity ∧
      (portWith .write 0 1).station.config.isSome = true ∧ (portWith .write 0 1).memory.selfRefresh = false ∧
      (portWith .write 0 1).spine.frames.length = 4 ∧ firstClaim 8 false true = some (.refresh .forced) ∧
      firstClaim 7 true true = some .write ∧ firstClaim 7 false true = some .read ∧
      firstClaim 1 false false = some (.refresh .postponed) ∧ firstClaim 0 false false = some (.refresh .pullIn) ∧
      firstClaim (-7) false false = some (.refresh .pullIn) ∧ firstClaim (-8) false false = none := by decide +kernel

/-- The DATA frame of `reading` with a second block of its span to come. -/
def readingOn : State :=
  { reading 4 with
    assembler :=
      { drain := 1024
        phase :=
          .assembling
            { first := 0, last := 1023, level := 4, origin := 0, seq := 0, position := 1, next := 0,
              gathered := List.replicate 4 [] } } }

theorem witness_BlockReadGathers :
    ∃ w, readingOn.assembler.phase = .assembling w ∧ readingOn.resetHeld = false ∧ readingOn.flagsFollow ∧
      readingOn.memory.op = some { op := .read, stale := false } ∧ readingOn.memory.readRequest = some 0 ∧
      dramRead (readingOn.readSlot w 0) readingOn.memory.dram = some { block := block 0 } ∧ w.next + 1 = w.last / 512 ∧
      readingOn.counters.uncorrectable ≤ Config.counter32 ∧ readingOn.station.config.isSome = true ∧
      readingOn.memory.selfRefresh = false := ⟨_, rfl, by decide +kernel⟩
theorem witness_DataFrameCompletes :
    ∃ w, (reading 0).assembler.phase = .assembling w ∧ (reading 0).resetHeld = false ∧
      (reading 0).memory.op = some { op := .read, stale := false } ∧ (reading 0).memory.readRequest = some 0 ∧
      dramRead ((reading 0).readSlot w 0) (reading 0).memory.dram = some { block := block 0 } ∧ w.last / 512 = w.next ∧
      (reading 0).spine.frames.length = 3 := ⟨_, rfl, by decide +kernel⟩

/-- The read of block 1, the second of the span, is in progress. -/
def readingSecond : State :=
  { readingOn with
    memory :=
      { readingOn.memory with
        dram := [(0, { block := block 0 }), (1, { block := block 1 })], writeSlot := 2, storedCount := 2
        readRequest := some 1 }
    assembler :=
      { drain := 1024
        phase :=
          .assembling
            { first := 511, last := 1023, level := 4, origin := 0, seq := 0, position := 1, next := 1,
              gathered := List.replicate 4 [1, 1] } } }

/-- The read of the span's last block, which ends with the span, and one sample past it. -/
theorem witness_DataFrameCompletes_released :
    ∀ last ∈ [1023, 1022],
      let w : WorkingCopy :=
        { first := 511, last := last, level := 4, origin := 0, seq := 0, position := 1, next := 1,
          gathered := List.replicate 4 [1, 1] }
      let s := { readingSecond with assembler := { readingSecond.assembler with phase := .assembling w } }
      s.resetHeld = false ∧ s.memory.op = some { op := .read, stale := false } ∧ s.assembler.phase = .assembling w ∧
      s.memory.readRequest = some 1 ∧ dramRead (s.readSlot w 1) s.memory.dram = some { block := block 1 } ∧
      w.last / 512 ≤ w.next ∧ w.last / 512 - w.first / 512 = 1 ∧
      dramRead (s.memory.drainSlot + 0) s.memory.dram = some { block := block 0 } ∧
      dramRead ((s.memory.drainSlot + 1) % s.capacity) s.memory.dram = some { block := block 1 } ∧
      1 < s.memory.storedCount ∧ s.memory.drainSlot < s.capacity := by decide +kernel
/-- The span of `reading` ends with its block, and one of the first sample alone does not. -/
theorem witness_ReadErrorTruncates_released :
    min 511 (block 0).lastSample = (block 0).lastSample ∧ min 0 (block 0).lastSample ≠ (block 0).lastSample := by decide

theorem witness_ReadErrorTruncates :
    (∃ w, readingSecond.assembler.phase = .assembling w ∧ readingSecond.resetHeld = false ∧
      readingSecond.memory.op = some { op := .read, stale := false } ∧ readingSecond.memory.readRequest = some 1 ∧
      dramRead (readingSecond.readSlot w 1) readingSecond.memory.dram = some { block := block 1 } ∧
      w.first + 1 = max w.first (512 * (block 1).number) ∧ readingSecond.spine.frames.length = 3 ∧
      readingSecond.table.queue = []) ∧
    ∃ w, (reading 4).assembler.phase = .assembling w ∧ max w.first (512 * (block 0).number) = w.first ∧
      (reading 4).spine.frames.length < 4 ∧
      dramRead ((reading 4).readSlot w 0) (reading 4).memory.dram = some { block := block 0 } :=
  ⟨⟨_, rfl, by decide +kernel⟩, ⟨_, rfl, by decide +kernel⟩⟩
theorem witness_RefreshMovesOwed :
    (portWith (.refresh .forced) 8 4).resetHeld = false ∧ (portWith (.refresh .forced) 8 4).flagsFollow ∧
      (portWith (.refresh .forced) 8 4).memory.op = some { op := .refresh .forced, stale := false } ∧
      (portWith .write 7 4).memory.refreshTimer = some 3900 ∧ (portWith .write 7 4).memory.owed ≠ 8 ∧
      (portWith .write 8 4).memory.owed = 8 ∧ State.reset.memory.refreshTimer = none ∧ State.reset.flagsFollow ∧
      (portWith (.refresh .forced) 8 4).station.config.isSome = true ∧ State.reset.station.config = none ∧
      (running 9).memory.selfRefresh = false ∧ (running 9).memory.op = none ∧
      (running 9).memory.refreshTimer = some 3900 := by decide +kernel
/-- The port free out of self-refresh, at each bound of owed. -/
theorem witness_PortGrantOrder :
    ∀ owed ∈ [(8 : Int), 7, 1, 0, -7, -8],
      let s := { running 9 with memory := { (running 9).memory with owed := owed } }
      s.memory.selfRefresh = false ∧ s.memory.op = none ∧ s.memory.owed = owed ∧ s.memory.staging = [] ∧
        s.memory.readRequest = none ∧ (portWith .write owed 1).memory.staging ≠ [] ∧
        (portWith .write owed 0).memory.readRequest.isSome = true := by decide +kernel
theorem witness_LeftOverOperationsHaveNoEffect :
    ∀ op ∈ [PortOp.write, .read, .refresh .pullIn],
      let s := { State.reset with memory := { State.reset.memory with op := some ⟨op, true⟩ } }
      s.resetHeld = false ∧ s.flagsFollow ∧ s.station.config = none ∧ s.memory.op = some { op := op, stale := true } := by
  decide
/-- A LOAD CONFIG was accepted while the operation ran on: owed at a forced refresh's bound, and at 0. -/
theorem witness_LeftOverOperations_configured :
    ∀ owed ∈ [(8 : Int), 0],
      let s := { st .joining with memory := { (st .joining).memory with op := some ⟨.write, true⟩, owed := owed } }
      s.resetHeld = false ∧ s.flagsFollow ∧ s.station.config.isSome = true ∧ s.memory.selfRefresh = false ∧
      s.memory.op = some { op := .write, stale := true } ∧
      (firstClaim s.memory.owed (!s.memory.staging.isEmpty) s.memory.readRequest.isSome).isSome = true := by
  decide +kernel
theorem witness_ThermalReadingMovesMode :
    (running 9).resetHeld = false ∧ (running 9).flagsFollow ∧ (95 : Int) ≤ 95 ∧ (90 : Int) ≤ 94 ∧ (85 : Int) ≤ 89 ∧
      (80 : Int) ≤ 84 ∧ (79 : Int) < 80 := by decide
theorem witness_TrailerPlaced :
    trailerDue.resetHeld = false ∧ trailerDue.assembler.phase = .idle ∧ trailerDue.spine.frames.length = 3 ∧
      (trailerDue.table.live.head?.bind Segment.ending) = some 5199871 ∧ 5199871 + 1 = trailerDue.assembler.drain ∧
      1 ≤ trailerDue.table.head ∧ trailerDue.table.head ≤ 63 := by decide
theorem witness_GapFramePlaced :
    gapDue.resetHeld = false ∧ gapDue.assembler.phase = .idle ∧ gapDue.spine.frames.length = 3 ∧
      gapDue.table.live = [{ origin := 0, seq := 0, cause := .runStart, start := 0 }] ∧
      gapDue.gaps.entries = [{ first := 3584000, count := 1024, cause := .ringFull, isOpen := false }] ∧
      gapDue.assembler.drain = 3584000 ∧ gapDue.table.queue = [] := by decide
theorem witness_DataFrameStarts :
    ∃ g, dataDue.table.live.head? = some g ∧ dataDue.resetHeld = false ∧ dataDue.flagsFollow ∧
      dataDue.assembler.phase = .idle ∧ dataDue.spine.frames.length < 4 ∧ g.ending = some 1023 ∧
      dataDue.assembler.drain ≤ 1023 ∧ dataDue.gaps.entries = [] ∧ dataSpan dataDue g = some 1023 ∧
      dataDue.table.queue = [] ∧ dataDue.memory.op = none ∧ dataDue.memory.selfRefresh = false :=
  ⟨_, rfl, by decide +kernel⟩
/-- Eligibility at its bounds: the drain point at the first and the last sample of the block at the drain slot, and one
past it; a Gap List head entry right after the span. -/
theorem witness_DataFrameStarts_eligible :
    0 < dataDue.memory.storedCount ∧ dramRead dataDue.memory.drainSlot dataDue.memory.dram = some { block := block 0 } ∧
      dramRead (dataDue.memory.writeSlot - 1) dataDue.memory.dram = some { block := block 1 } ∧
      512 * (block 1).number + (block 1).fill - 1 = 1023 ∧
      (∀ g ∈ dataDue.table.live.head?, dataSpan dataDue g = some 1023 ∧
        dataSpan { dataDue with assembler := { dataDue.assembler with drain := 511 } } g = some 1023 ∧
        dataSpan { dataDue with assembler := { dataDue.assembler with drain := 512 } } g = none ∧
        dataSpan { dataDue with gaps := { entries := [{ first := 512, count := 1, cause := .lane, isOpen := true }] } }
          { g with ending := none } = some 511 ∧
        dataSpan { dataDue with gaps := { entries := [{ first := 1024, count := 1, cause := .lane, isOpen := true }] } }
          { g with ending := none } = some 1023) := by decide +kernel
theorem witness_MemoryGapAndFlushAge :
    (memoryGapWaits 3).resetHeld = false ∧ (memoryGapWaits 3).flagsFollow ∧
      (memoryGapWaits 3).assembler.phase = .pending { first := 0, count := 512, origin := 0, seq := 0 } ∧
      (memoryGapWaits 3).spine.frames.length = 3 ∧ (memoryGapWaits 4).spine.frames.length = 4 ∧
      (memoryGapWaits 4).flagsFollow := by decide
/-- A limit inside the first block, and the last candidate of 06's span that fits. -/
theorem witness_SpanFitsThePayload :
    1 ≤ 8 ∧ 1024 * 8 ≤ 8192 ∧ 511 ≤ 511 ∧ 8192 ≤ 16384 ∧ 1004031 % 512 = 511 ∧ 1004031 ≤ 1005055 ∧
      payloadBytes 4 2 1000004 1004031 ≤ 8192 ∧ 8192 < payloadBytes 4 2 1000004 1004543 := by decide
theorem witness_ReductionIsMinMax :
    1 ≤ 8 ∧ ([1, 2, 3, 4, 5, 6, 7, 8] : List Sample).length = 8 ∧ ([1] : List Sample) ≠ [] ∧
      ([1] : List Sample).length < 8 ∧ 1 ≤ 4 ∧ ([1, 2, 3, 4] : List Sample).length = 4 := by decide
/-- The four kinds of header: bad length, own source, hop count 15, and transit at and above the buffer's size. -/
theorem witness_HeaderArrivalJudged :
    fullTransit.resetHeld = false ∧ fullTransit.flagsFollow ∧ fullTransit.spine.input = none ∧
      16384 < payloadLengthOf (asHeader (commonHeader 1 0 (peerOrigin 9) 16385)).toList ∧
      payloadLengthOf (asHeader bigHeader).toList = 16384 ∧ payloadLengthOf (asHeader bigHeader).toList % 4 = 0 ∧
      fullTransit.spine.ownAddress = some (sourceOf (asHeader (commonHeader 1 0 (peerOrigin 5) 0)).toList) ∧
      fullTransit.spine.ownAddress ≠ some (sourceOf (asHeader bigHeader).toList) ∧
      hopOf (asHeader (mapNth (fun _ => 15) 1 bigHeader)).toList = 15 ∧ hopOf (asHeader bigHeader).toList < 15 ∧
      occupancy (noteSent 191 fullTransit).spine.transit + (64 + 16384) = 49153 ∧
      occupancy (noteSent 192 fullTransit).spine.transit + (64 + 16384) = 49152 := by decide +kernel
/-- A unit that is not good: no byte follows its header. -/
theorem witness_BadUnitsAreCounted :
    (running 9).spine.input = none ∧ (running 9).resetHeld = false ∧
      (∀ fate ∈ [ArrivalFate.discarded, .strippedOwn, .strippedOrphan, .accepted],
        (arriving bigHeader fate (running 9)).flagsFollow ∧ isGood bigHeader [] = false ∧
        (arriving bigHeader fate (running 9)).spine.input = some { header := bigHeader, fate := fate }) := by decide +kernel

/-- An own note as it comes back, with another device number or incarnation. -/
def ownNoteHeader (device : BitVec 32) (incarnation : Byte) : List Byte :=
  noteHeader (presenceNote { (running 9).unitOrigin with device := device, incarnation := incarnation } 0)

/-- An own GAP frame as it comes back. -/
def ownFrameHeader : List Byte := ((frames 1).map frameHeader).flatten

theorem witness_OwnUnitsComeBack :
    (∀ h : List Byte, payloadLengthOf h = 0 → isGood h (tail h) = true) ∧
      (∀ h ∈ [ownNoteHeader 0x7A0C3E15 6, ownNoteHeader 0x7A0C3E15 5, ownNoteHeader 1 6, ownFrameHeader],
        (arriving h .strippedOwn (running 9)).resetHeld = false ∧ (arriving h .strippedOwn (running 9)).flagsFollow ∧
        (arriving h .strippedOwn (running 9)).spine.input = some { header := h, fate := .strippedOwn } ∧
        payloadLengthOf h = 0) ∧
      kindOf (ownNoteHeader 1 6) = 0x10 ∧ deviceOf (ownNoteHeader 1 6) ≠ (running 9).station.deviceNumber ∧
      deviceOf (ownNoteHeader 0x7A0C3E15 5) = (running 9).station.deviceNumber ∧
      incarnationOf (ownNoteHeader 0x7A0C3E15 6) = (running 9).station.incarnation ∧
      incarnationOf (ownNoteHeader 0x7A0C3E15 5) ≠ (running 9).station.incarnation ∧
      kindOf ownFrameHeader = 2 ∧ deviceOf ownFrameHeader = (running 9).station.deviceNumber :=
  ⟨isGood_tail, by decide +kernel⟩
/-- PRESENCE notes of stations 1 and 14. -/
theorem witness_PeerNotesTaken :
    ∀ source ∈ [(1 : Byte), 14],
      let h := noteHeader (presenceNote (peerOrigin source) 3)
      (arriving h .accepted (running 9)).resetHeld = false ∧ (arriving h .accepted (running 9)).flagsFollow ∧
      (arriving h .accepted (running 9)).spine.input = some { header := h, fate := .accepted } ∧
      kindOf h = 0x10 ∧ payloadLengthOf h = 0 ∧ 1 ≤ (sourceOf h).toNat ∧ (sourceOf h).toNat ≤ 14 ∧
      (running 9).spine.ownAddress ≠ some (sourceOf h) ∧ (running 9).presence.peers.length = 14 := by decide +kernel

/-- The MARKER note of station 14, line 2, index 5. -/
def peerMarkerHeader (seq : BitVec 16) : List Byte := noteHeader (markerNote (peerOrigin 14) seq 5)

/-- A MARKER note with sequence 1, and one with sequence 0, which is refused. -/
theorem witness_PeerNotesTaken_marker :
    (arriving (peerMarkerHeader 1) .accepted (running 9)).flagsFollow ∧
      (arriving (peerMarkerHeader 1) .accepted (running 9)).resetHeld = false ∧
      kindOf (peerMarkerHeader 1) = 0x11 ∧ payloadLengthOf (peerMarkerHeader 1) = 0 ∧
      (arriving (peerMarkerHeader 1) .accepted (running 9)).spine.input =
        some { header := peerMarkerHeader 1, fate := .accepted } ∧
      runTagOf (peerMarkerHeader 1) = (running 9).runTag ∧ rateClassOf (peerMarkerHeader 1) = (running 9).rateClass ∧
      (byteAt (peerMarkerHeader 1) 18).toNat = (2 : Fin 4).val ∧
      BitVec.ofNat 16 (fieldAt (peerMarkerHeader 1) 16 2) ≠ 0 ∧
      BitVec.ofNat 16 (fieldAt (peerMarkerHeader 0) 16 2) = 0 := by decide +kernel
/-- The notes of both witnesses end good in their check words. -/
theorem witness_PeerNotesTaken_good :
    isGood (noteHeader (presenceNote (peerOrigin 14) 3)) (tail (noteHeader (presenceNote (peerOrigin 14) 3))) = true ∧
      isGood (peerMarkerHeader 1) (tail (peerMarkerHeader 1)) = true :=
  ⟨isGood_tail _ (by decide +kernel), isGood_tail _ (by decide +kernel)⟩
theorem witness_IngestNoteTaken :
    let h := ingestHeader 4 1
    isGood h (tail h) = true ∧ (arriving h .accepted (running 9)).resetHeld = false ∧
      (arriving h .accepted (running 9)).flagsFollow ∧
      (arriving h .accepted (running 9)).spine.input = some { header := h, fate := .accepted } ∧
      kindOf h = 0x12 ∧ payloadLengthOf h = 0 ∧ sourceOf h = 0 ∧ (running 9).spine.ownAddress ≠ some 0 ∧
      (byteAt h 19).getLsbD 0 = true :=
  ⟨isGood_tail _ (by decide), by decide +kernel⟩

/-- The output sending one unit, with transit units of given bytes held behind it. -/
def sending (port : OutPort) (first second : Nat) (s : State) : State :=
  { s with
    spine :=
      { s.spine with
        port := port
        transit :=
          (match port with
            | .forwarding => [{ header := bigHeader, length := 64, received := 64, ended := true }]
            | _ => []) ++
            [{ header := bigHeader, length := 16448, received := first, ended := true },
             { header := bigHeader, length := 16448, received := second, ended := true }] } }

/-- The threshold of R127 met and passed at both ends, with and without a note and a frame that wait. -/
theorem witness_OutputEndsBringAChoice :
    (∀ port ∈ [OutPort.forwarding, .insertingNote (presenceNote (peerOrigin 5) 0)],
      (sending port 16448 16257 (withFrames 1 (running 9))).resetHeld = false ∧
      (sending port 16448 16257 (withFrames 1 (running 9))).flagsFollow ∧
      (sending port 16448 16257 (withFrames 1 (running 9))).spine.port = port) ∧
    occupancy (noteReceived [] (sending (.insertingNote (presenceNote (peerOrigin 5) 0)) 16448 16257
      (running 9))).spine.transit = 32705 ∧
    occupancy (noteReceived [] (sending (.insertingNote (presenceNote (peerOrigin 5) 0)) 16448 16256
      (running 9))).spine.transit = 32704 ∧
    ((noteReceived [] (sending .forwarding 16448 16256 (running 9))).spine.transit.head?.map fun u =>
      decide (u.length ≤ u.received)) = some true ∧
    (running 9).spine.hold = ⟨false, false, false, false, false⟩ ∧
    (sending .insertingFrame 0 0 (withFrames 1 (running 9))).spine.port = .insertingFrame ∧
    (sending .insertingFrame 0 0 (withFrames 1 (running 9))).spine.frames = frames 1 ∧
    (arriving bigHeader .accepted (running 9)).spine.transit =
      [] ++ [{ header := bigHeader, length := 16448, received := 60 }] := by decide +kernel
theorem witness_UnitsReadBack :
    2 ≤ bigHeader.length ∧ (2 ^ 48 - 1 < 2 ^ 48) ∧ (2 ^ 32 - 1 < 2 ^ 32) ∧ (0 < 2 ^ 64) ∧ (2 ^ 56 - 1 < 2 ^ 56) ∧
      (∀ f ∈ frames 1, (framePayload f.body).length ≤ 16384 ∧ (framePayload f.body).length % 4 = 0) := by decide +kernel

/-- The station at a tick with a stored count, a demand and a hold counter. -/
def demanding (stored : Nat) (demand : Level) (hold : Nat) : State :=
  { running 9 with
    memory := { (running 9).memory with storedCount := stored }
    presence := { (running 9).presence with demand := demand, holdCounter := hold } }

/-- Raise at 850, lower below 250 with the hold time just reached, and hold at 250 and one tick short of it. -/
theorem witness_DemandFollowsFill :
    (demanding 3565159 3 0).resetHeld = false ∧ (demanding 3565159 3 0).presence.ticking = true ∧
      (demanding 3565159 3 0).station.phase = .run ∧ (demanding 3565159 3 0).station.config = some cfg ∧
      1000 * (demanding 3565159 3 0).held / (2 ^ 24 / 2 ^ cfg.channelCode.val) = 850 ∧
      1000 * (demanding 1048575 1 16).held / (2 ^ 24 / 2 ^ cfg.channelCode.val) = 249 ∧
      1000 * (demanding 1048576 1 16).held / (2 ^ 24 / 2 ^ cfg.channelCode.val) = 250 ∧
      4 * 4 ^ cfg.holdCode.val = 16 ∧ (demanding 1048575 1 15).presence.holdCounter < 16 := by decide +kernel
theorem witness_PaceTickInOrder :
    (aging {} 7 7).resetHeld = false ∧ (aging {} 7 7).flagsFollow ∧ (aging {} 7 7).presence.ticking = true ∧
      7 ≤ (aging {} 7 7).presence.returnCounter ∧ (aging {} 6 6).presence.returnCounter < 7 ∧
      (aging {} 7 7).presence.ingest = some ⟨1, 1, true, 7⟩ ∧ State.reset.presence.ticking = false ∧
      (st .ready).flagsFollow ∧ (st .ready).presence.ingest = none := by decide +kernel
theorem witness_PresenceNoteQueued :
    let n := presenceNote (st .run).unitOrigin 0
    let m := markerNote (st .run).unitOrigin 1 5
    let s := { fullTransit with spine := { fullTransit.spine with notes := m :: n :: [m] } }
    s.resetHeld = false ∧ s.presence.ticking = true ∧ s.presence.ingest = none ∧ s.spine.port ≠ .free ∧
      s.spine.notes = [m] ++ n :: [m] ∧ m.isPresence = false ∧ n.isPresence = true ∧
      (List.replicate 7 m).length < 8 ∧ 8 ≤ (List.replicate 8 m).length := by decide +kernel
theorem witness_AgesRunOut :
    (aging { phase := .live, age := 8 } 8 8).resetHeld = false ∧ (aging { phase := .live, age := 8 } 8 8).flagsFollow ∧
      1 ≤ (3 : BitVec 4).toNat ∧ (3 : BitVec 4).toNat ≤ 14 ∧
      (aging { phase := .live, age := 8 } 8 8).presence.peers[(3 : BitVec 4).toNat - 1]? = some { phase := .live, age := 8 } ∧
      (aging { phase := .stale, age := 64 } 7 7).presence.peers[(3 : BitVec 4).toNat - 1]? =
        some { phase := .stale, age := 64 } ∧
      (aging { phase := .stale, age := 64 } 7 7).flagsFollow ∧
      (aging {} 7 7).presence.returnCounter < 8 := by decide +kernel
/-- The boundary of the ages: 7 and 63 change nothing, nor does an entry of another state. -/
theorem witness_AgesRunOut_before :
    (aging { phase := .mismatched, age := 7 } 7 7).flagsFollow ∧ (aging { phase := .stale, age := 63 } 7 7).flagsFollow ∧
      (aging { phase := .mismatched, age := 7 } 7 7).presence.peers[(3 : BitVec 4).toNat - 1]? =
        some { phase := .mismatched, age := 7 } ∧
      after (.peerStaleExpiry 3) (aging { phase := .mismatched, age := 7 } 7 7) =
        aging { phase := .mismatched, age := 7 } 7 7 ∧
      after (.peerAbsentExpiry 3) (aging { phase := .stale, age := 63 } 7 7) =
        aging { phase := .stale, age := 63 } 7 7 := by decide +kernel
theorem witness_SizesKept :
    (waiting .paceTick (running 9)).withinSizes ∧ (waiting .paceTick (running 9)).counters.within ∧
      ∃ t, step (waiting .paceTick (running 9)) = .next t := ⟨by decide +kernel, by decide +kernel, _, rfl⟩
theorem witness_CountersOnlyRise :
    (running 9).counters.within ∧ (∀ straps, Instr.paceTick ≠ .powerOn straps) ∧ Instr.paceTick ≠ .resetAssert ∧
      (∀ straps, Instr.paceTick ≠ .resetRelease straps) ∧ ∃ t, exec .paceTick (running 9) = .next t :=
  ⟨by decide, nofun, nofun, nofun, _, rfl⟩
theorem witness_PhasesAgreeKept :
    (waiting .stopEdge (running 9)).phasesAgree ∧ (waiting .stopEdge beforeT0).peersSound ∧
      (∃ t, step (waiting .stopEdge (running 9)) = .next t) ∧ ∃ t, step (waiting .stopEdge beforeT0) = .next t := by
  refine ⟨by decide, ⟨by decide +kernel, ?_⟩, ⟨_, rfl⟩, ⟨_, rfl⟩⟩
  intro a e own _ at_
  have : a = 5 := (Option.some.inj own).symm
  subst this
  exact (Option.some.inj at_) ▸ rfl
theorem witness_MemoryKept :
    (portWith .write 8 4).heldWithin ∧ (portWith .write 8 4).owedWithin ∧ (portWith .write 8 4).phasesAgree ∧
      Memory.wf (portWith .write 8 4).memory.dram = true ∧
      ∃ t, step (waiting .blockWriteComplete (portWith .write 8 4)) = .next t :=
  ⟨by decide +kernel, by decide +kernel, by decide +kernel, by decide +kernel, _, rfl⟩
theorem witness_TransitKept :
    fullTransit.transitWithin ∧ ∃ t, step (waiting (.forwardingEnd []) fullTransit) = .next t := by
  refine ⟨⟨by decide +kernel, by decide +kernel, by decide +kernel, ?_⟩, _, rfl⟩
  intro u hu h
  simp only [fullTransit, List.mem_cons, List.not_mem_nil, or_false] at hu
  rcases hu with rfl | rfl <;> simp at h
theorem witness_SegmentsKept :
    (running 9).phasesAgree ∧ (running 9).segmentsSound ∧ ∃ t, step (waiting .boundaryApply (running 9)) = .next t :=
  ⟨by decide, by decide, _, rfl⟩
theorem witness_MarkersSoundKept :
    (onLine 0 { phase := .armed } (running 9)).markersSound ∧
      ∃ t, step (waiting (.markerEdge 0) (onLine 0 { phase := .armed } (running 9))) = .next t :=
  ⟨by decide, _, rfl⟩
theorem witness_FlagsFollowKept :
    (running 9).phasesAgree ∧ (running 9).flagsFollow ∧
      ∃ t, step (waiting (.thermalReading 90) (running 9)) = .next t := ⟨by decide, by decide, _, rfl⟩

end Sys2Proof.Tests
end

section
/-! PROOFS. The Gap List (R39 to R47): what a decision makes of a list by its newest entry, what a GAP frame makes of its
head entry, and how many indices the list records after each. -/

namespace Sys2Proof.Machine

/-! ### One entry -/

theorem GapEntry.finish_of_heldPart_none {e : GapEntry} (hh : e.heldPart = none) :
    e.finish = e.first + e.count - 1 := by
  simp [GapEntry.finish, GapEntry.frontEnd, hh]

theorem GapEntry.finish_of_heldPart_some {e : GapEntry} {h : HeldPart} (hh : e.heldPart = some h) :
    e.finish = h.first + h.count - 1 := by
  simp [GapEntry.finish, hh]

theorem GapEntry.grow_of_heldPart_none {e : GapEntry} (hh : e.heldPart = none) (k : Nat) :
    e.grow k = { e with count := e.count + k } := by
  simp [GapEntry.grow, hh]

theorem GapEntry.grow_of_heldPart_some {e : GapEntry} {h : HeldPart} (hh : e.heldPart = some h) (k : Nat) :
    e.grow k = { e with heldPart := some { first := h.first, count := h.count + k } } := by
  simp [GapEntry.grow, hh]

theorem GapEntry.indices_of_heldPart_none {e : GapEntry} (hh : e.heldPart = none) : e.indices = e.count := by
  simp [GapEntry.indices, hh]

theorem GapEntry.indices_of_heldPart_some {e : GapEntry} {h : HeldPart} (hh : e.heldPart = some h) :
    e.indices = e.count + h.count := by
  simp [GapEntry.indices, hh]

/-- Growth lands in one range, whichever is the last. -/
theorem GapEntry.indices_grow (e : GapEntry) (k : Nat) : (e.grow k).indices = e.indices + k := by
  cases hh : e.heldPart with
  | none => simp [GapEntry.grow_of_heldPart_none hh, GapEntry.indices, hh]
  | some h => simp [GapEntry.grow_of_heldPart_some hh, GapEntry.indices, hh, Nat.add_assoc]

/-- The condition of R42's merge. -/
theorem GapEntry.continues_iff (e : GapEntry) (cause : DropCause) (a : Nat) :
    e.continues cause a = true ↔ e.isOpen = true ∧ e.cause = cause ∧ e.finish + 1 = a := by
  simp [GapEntry.continues, and_assoc]

theorem GapEntry.not_continues_iff (e : GapEntry) (cause : DropCause) (a : Nat) :
    e.continues cause a = false ↔ e.isOpen = false ∨ e.cause ≠ cause ∨ e.finish + 1 ≠ a := by
  rw [← Bool.not_eq_true, GapEntry.continues_iff, not_and_or, not_and_or, Bool.not_eq_true]

namespace GapList

/-! ### The decision, by the newest entry -/

section Decided

variable {g : GapList} {before : List GapEntry} {n : GapEntry}

theorem length_of_snoc (he : g.entries = before ++ [n]) : g.entries.length = before.length + 1 := by
  simp [he]

theorem decided_stage_nil (he : g.entries = []) (a k : Nat) :
    g.decided .stage a k = { entries := [], overrun := false, active := false } := by
  simp [decided, staged, closeNewest, he, mapLast]

theorem decided_drop_nil (he : g.entries = []) (cause : DropCause) (a k : Nat) :
    g.decided (.drop cause) a k =
      { entries := [{ first := a, count := k, cause := cause, isOpen := true }], overrun := false, active := true } := by
  simp [decided, dropped, closeNewest, he, mapLast, Config.gapEntries]

/-- A staged report closes the newest entry (R41). -/
theorem decided_stage_snoc (he : g.entries = before ++ [n]) (a k : Nat) :
    g.decided .stage a k =
      { entries := before ++ [{ n with isOpen := false }], overrun := false, active := false } := by
  simp [decided, staged, closeNewest, he, mapLast_snoc]

/-- A run end closes out the list (R45). -/
theorem runEnd_snoc (he : g.entries = before ++ [n]) :
    g.runEnd = { entries := before ++ [{ n with isOpen := false }], overrun := false, active := false } := by
  simp [runEnd, closeNewest, he, mapLast_snoc]

/-- A drop the newest entry continues to grows it (R42, merge). -/
theorem decided_drop_merge {cause : DropCause} {a : Nat} (he : g.entries = before ++ [n])
    (hc : n.continues cause a = true) (k : Nat) :
    g.decided (.drop cause) a k = { entries := before ++ [n.grow k], overrun := false, active := true } := by
  simp [decided, dropped, he, hc, mapLast_snoc]

/-- A drop with room in the list opens an entry and closes the newest (R42, append). -/
theorem decided_drop_append {cause : DropCause} {a : Nat} (he : g.entries = before ++ [n])
    (hc : n.continues cause a = false) (hroom : g.entries.length < 32) (k : Nat) :
    g.decided (.drop cause) a k =
      { entries :=
          before ++ [{ n with isOpen := false }, { first := a, count := k, cause := cause, isOpen := true }]
        overrun := false
        active := true } := by
  have hlen : before.length < 31 := by have := length_of_snoc he; omega
  simp [decided, dropped, closeNewest, he, hc, hlen, mapLast_snoc, Config.gapEntries]

/-- A drop at the full list begins a held overrun on the newest entry (R42, R43). -/
theorem decided_drop_overrun {cause : DropCause} {a : Nat} (he : g.entries = before ++ [n])
    (hc : n.continues cause a = false) (hfull : 32 ≤ g.entries.length) (k : Nat) :
    g.decided (.drop cause) a k =
      { entries := before ++ [{ n with isOpen := true, heldPart := some { first := a, count := k } }]
        overrun := true
        active := true } := by
  have hlen : 31 ≤ before.length := by have := length_of_snoc he; omega
  simp [decided, dropped, he, hc, hlen, mapLast_snoc, Config.gapEntries]

/-- A drop in the overrun grows the newest entry (R44). -/
theorem decided_held_snoc (he : g.entries = before ++ [n]) (a k : Nat) :
    g.decided .held a k = { entries := before ++ [n.grow k], overrun := g.overrun, active := true } := by
  simp [decided, droppedHeld, he, mapLast_snoc]

end Decided

/-! ### A GAP frame, by the head entry -/

section Consume

variable {g : GapList} {e : GapEntry} {rest : List GapEntry}

theorem consume_lt {k : Nat} (he : g.entries = e :: rest) (hk : k < e.count) :
    g.consume k = { g with entries := { e with first := e.first + k, count := e.count - k } :: rest } := by
  simp [consume, he, hk]

/-- A front range wholly consumed gives way to the held part (R47). -/
theorem consume_count_of_heldPart_some {h : HeldPart} (he : g.entries = e :: rest) (hh : e.heldPart = some h) :
    g.consume e.count =
      { g with
        entries := { e with first := h.first, count := h.count, heldFlag := true, heldPart := none } :: rest } := by
  simp [consume, he, hh]

/-- An entry with no held part leaves when its front range is wholly consumed (R47). -/
theorem consume_count_of_heldPart_none (he : g.entries = e :: rest) (hh : e.heldPart = none) :
    g.consume e.count = { g with entries := rest } := by
  simp [consume, he, hh]

end Consume

/-! ### The indices recorded -/

theorem indices_of_nil {g : GapList} (he : g.entries = []) : g.indices = 0 := by
  simp [indices, he]

theorem indices_of_cons {g : GapList} {e : GapEntry} {rest : List GapEntry} (he : g.entries = e :: rest) :
    g.indices = e.indices + (rest.map GapEntry.indices).sum := by
  simp [indices, he]

theorem indices_of_snoc {g : GapList} {before : List GapEntry} {n : GapEntry} (he : g.entries = before ++ [n]) :
    g.indices = (before.map GapEntry.indices).sum + n.indices := by
  simp [indices, he]

theorem indices_decided_stage (g : GapList) (a k : Nat) : (g.decided .stage a k).indices = g.indices := by
  rcases List.eq_nil_or_concat' g.entries with he | ⟨before, n, he⟩
  · rw [decided_stage_nil he, indices_of_nil he, indices_of_nil rfl]
  · rw [decided_stage_snoc he, indices_of_snoc he, indices_of_snoc rfl]
    rfl

/-- No index is lost where a held overrun begins, as the newest entry had no held part to replace. -/
theorem indices_decided_drop (g : GapList) (cause : DropCause) (a k : Nat)
    (hnone : ∀ e, g.entries.getLast? = some e → g.entries.length = 32 → e.heldPart = none)
    (hsize : g.entries.length ≤ 32) : (g.decided (.drop cause) a k).indices = g.indices + k := by
  rcases List.eq_nil_or_concat' g.entries with he | ⟨before, n, he⟩
  · rw [decided_drop_nil he, indices_of_nil he]
    simp [indices, GapEntry.indices]
  · rw [indices_of_snoc he]
    cases hc : n.continues cause a with
    | true => rw [decided_drop_merge he hc, indices_of_snoc rfl, GapEntry.indices_grow, Nat.add_assoc]
    | false =>
      rcases Nat.lt_or_ge g.entries.length 32 with hroom | hfull
      · rw [decided_drop_append he hc hroom]
        simp [indices, GapEntry.indices, Nat.add_assoc]
      · have hn : n.heldPart = none := hnone n (by simp [he]) (Nat.le_antisymm hsize hfull)
        rw [decided_drop_overrun he hc hfull, indices_of_snoc rfl, GapEntry.indices_of_heldPart_none hn,
          GapEntry.indices_of_heldPart_some rfl, Nat.add_assoc]

/-- A drop keeps the list within its 32 entries (R39). -/
theorem decided_drop_length_le (g : GapList) (cause : DropCause) (a k : Nat) (hsize : g.entries.length ≤ 32) :
    (g.decided (.drop cause) a k).entries.length ≤ 32 := by
  rcases List.eq_nil_or_concat' g.entries with he | ⟨before, n, he⟩
  · simp [decided_drop_nil he]
  · have hlen : before.length < 32 := by have := length_of_snoc he; omega
    cases hc : n.continues cause a with
    | true => simpa [decided_drop_merge he hc] using hlen
    | false =>
      rcases Nat.lt_or_ge g.entries.length 32 with hroom | hfull
      · have hlen : before.length ≤ 30 := by have := length_of_snoc he; omega
        simpa [decided_drop_append he hc hroom] using hlen
      · simpa [decided_drop_overrun he hc hfull] using hlen

theorem indices_decided_held (g : GapList) (a k : Nat) (hne : g.entries ≠ []) :
    (g.decided .held a k).indices = g.indices + k := by
  rcases List.eq_nil_or_concat' g.entries with he | ⟨before, n, he⟩
  · exact absurd he hne
  · rw [decided_held_snoc he, indices_of_snoc he, indices_of_snoc rfl, GapEntry.indices_grow, Nat.add_assoc]

theorem indices_consume {g : GapList} {e : GapEntry} {rest : List GapEntry} {k : Nat} (he : g.entries = e :: rest)
    (hk : k ≤ e.count) : (g.consume k).indices + k = g.indices := by
  rw [indices_of_cons he]
  rcases Nat.lt_or_eq_of_le hk with hlt | rfl
  · rw [consume_lt he hlt, indices_of_cons rfl]
    simp only [GapEntry.indices]
    omega
  · cases hh : e.heldPart with
    | none =>
      rw [consume_count_of_heldPart_none he hh, GapEntry.indices_of_heldPart_none hh]
      exact Nat.add_comm ..
    | some h =>
      rw [consume_count_of_heldPart_some he hh, indices_of_cons rfl, GapEntry.indices_of_heldPart_none rfl,
        GapEntry.indices_of_heldPart_some hh]
      simp only
      omega

end GapList

/-- Settles O22: a decision splits by the newest entry (none, continued, with room after it, at the full list), a GAP frame
by the head entry, and the counts follow from the list each case leaves. -/
theorem gapListLosesNoIndex : Obligations.GapListLosesNoIndex := by
  refine ⟨fun a k cause g => ⟨?empty, ?newest⟩, ?finish, ?consumed, GapList.indices_decided_stage, ?dropCounted,
    GapList.indices_decided_held, fun _ _ _ _ => GapList.indices_consume⟩
  case empty => exact fun he => ⟨GapList.decided_stage_nil he a k, GapList.decided_drop_nil he cause a k⟩
  case newest =>
    intro before n he
    refine ⟨GapList.decided_stage_snoc he a k, GapList.runEnd_snoc he, ?merge, ?mergeHeld, ?fresh, ?held⟩
    case merge =>
      intro hopen hcause hh hnext
      have hc := (n.continues_iff cause a).2 ⟨hopen, hcause, by rw [GapEntry.finish_of_heldPart_none hh, hnext]⟩
      rw [GapList.decided_drop_merge he hc, GapEntry.grow_of_heldPart_none hh]
    case mergeHeld =>
      intro h hopen hcause hh hnext
      have hc := (n.continues_iff cause a).2 ⟨hopen, hcause, by rw [GapEntry.finish_of_heldPart_some hh, hnext]⟩
      rw [GapList.decided_drop_merge he hc, GapEntry.grow_of_heldPart_some hh]
    case fresh =>
      intro hnot
      have hc := (n.not_continues_iff cause a).2 hnot
      exact ⟨fun hroom => GapList.decided_drop_append he hc hroom k,
        fun hfull => GapList.decided_drop_overrun he hc hfull k⟩
    case held =>
      intro h hh
      rw [GapList.decided_held_snoc he, GapEntry.grow_of_heldPart_some hh]
  case finish => exact fun n => ⟨GapEntry.finish_of_heldPart_none, fun _ => GapEntry.finish_of_heldPart_some⟩
  case consumed =>
    intro k e rest g he
    refine ⟨GapList.consume_lt he, ?_, ?_⟩
    · rintro rfl h hh
      exact GapList.consume_count_of_heldPart_some he hh
    · rintro rfl hh
      exact GapList.consume_count_of_heldPart_none he hh
  case dropCounted =>
    intro g cause a k hnone hsize
    exact ⟨GapList.indices_decided_drop g cause a k hnone hsize, GapList.decided_drop_length_le g cause a k hsize⟩

end Sys2Proof.Machine
end

section
/-! PROOFS. REARM MARKERS (R61): what it makes of each line, and that no condition moves with the lines. -/

namespace Sys2Proof.Machine

/-! ### An answered command that moves no condition -/

/-- The flags follow wherever the conditions and the Fault Monitor stand as they did. -/
theorem flagsFollow_of_same {s t : State} (hc : t.conditions = s.conditions) (hf : t.faults = s.faults)
    (h : s.flagsFollow) : t.flagsFollow := by
  unfold State.flagsFollow
  rw [hc, hf]
  exact h

/-- The last argument byte of a command that moves neither a condition nor a flag leaves what the command made. -/
theorem event_onArguments_quiet {c : ArgCommand} {s t : State} (hr : s.resetHeld = false) (hs : s.flagsFollow)
    (hp : s.port.phase = .arguments c) (hc : t.conditions = s.conditions) (hf : t.faults = s.faults) :
    event s (onArguments c s t) = .next t := by
  have htaken : onArguments c s t = t := if_pos hp
  rw [htaken, event_free s t hr, report_quiet s t hc (flagsFollow_of_same hc hf hs)]

/-! ### The lines -/

@[simp] theorem PerLine.get_tabulate {α : Type} (f : Fin 4 → α) (line : Fin 4) :
    (PerLine.tabulate f).get line = f line := by
  match line with
  | 0 => rfl
  | 1 => rfl
  | 2 => rfl
  | 3 => rfl

theorem MarkerLine.rearmed_of_latch {l : MarkerLine} (h : l.latch = true) (running : Bool) :
    l.rearmed running = { phase := if running then .armed else .off } := by
  cases running <;> simp [MarkerLine.rearmed, h]

theorem MarkerLine.rearmed_of_clear {l : MarkerLine} (h : ¬l.latch = true) (running : Bool) : l.rearmed running = l :=
  if_neg h

/-- R61's table: the latch decides for a line that is named and enabled. -/
theorem rearmLine_eq (mask : Byte) (s : State) (line : Fin 4) :
    rearmLine mask s line =
      if mask.getLsbD line.val = true ∧ (s.enabledSetup line).isSome = true ∧
          (s.markers.lines.get line).latch = true then
        { phase := if s.station.phase = .run then .armed else .off }
      else s.markers.lines.get line := by
  unfold rearmLine
  by_cases hreached : mask.getLsbD line.val = true ∧ (s.enabledSetup line).isSome = true
  · obtain ⟨hnamed, henabled⟩ := hreached
    by_cases hlatch : (s.markers.lines.get line).latch = true
    · simp [hnamed, henabled, hlatch, MarkerLine.rearmed_of_latch hlatch]
    · simp [hnamed, henabled, hlatch, MarkerLine.rearmed_of_clear hlatch]
  · rw [if_neg hreached, if_neg fun ⟨hnamed, henabled, _⟩ => hreached ⟨hnamed, henabled⟩]

@[simp] theorem rearmNamed_lines_get (mask : Byte) (s : State) (line : Fin 4) :
    (rearmNamed mask s).markers.lines.get line = rearmLine mask s line :=
  PerLine.get_tabulate _ line

theorem answer_rearmNamed_conditions (bytes : List Byte) (mask : Byte) (s : State) :
    (answer bytes (rearmNamed mask s)).conditions = s.conditions :=
  conditions_congr _ _ rfl rfl rfl rfl rfl rfl rfl rfl

theorem sameBut_answer_rearmNamed (bytes : List Byte) (mask : Byte) (s : State) :
    sameBut [.markers, .port] s (answer bytes (rearmNamed mask s)) := by
  intro p hp
  cases p <;> simp [Part.same] at hp ⊢

/-! ### The command -/

theorem exec_rearmMarkers_next {mask : Byte} {s : State} (hr : s.resetHeld = false) (hs : s.flagsFollow)
    (hp : s.port.phase = .arguments .rearmMarkers) :
    exec (.rearmMarkers mask) s = .next (answer [resultOk] (rearmNamed mask s)) :=
  event_onArguments_quiet hr hs hp (answer_rearmNamed_conditions _ mask s) rfl

/-- Settles O10: the command leaves the answered rearming, whose lines are those of R61's table. -/
theorem rearmMarkersReachesNamedLines : Obligations.RearmMarkersReachesNamedLines := by
  intro mask s hr hs hp
  refine ⟨answer [resultOk] (rearmNamed mask s), exec_rearmMarkers_next hr hs hp, sameBut_answer_rearmNamed _ mask s, rfl,
    rfl, fun line => ?_⟩
  rw [answer_markers, rearmNamed_lines_get, rearmLine_eq]

end Sys2Proof.Machine
end

section
/-! PROOFS. The demand level at a tick (R152, R153): the levels' thresholds, the cases raise, lower and hold, and that no
part of the tick but part 4 touches what they are computed from or what they write. -/

namespace Sys2Proof.Machine

/-! ### The levels -/

theorem raiseLevel_val (f : Nat) :
    (raiseLevel f).val = if 850 ≤ f then 4 else if 700 ≤ f then 3 else if 550 ≤ f then 2 else if 400 ≤ f then 1 else 0 := by
  simp only [raiseLevel, apply_ite Fin.val]
  rfl

/-- R152's lower thresholds lie 150 per mille apart, from 250 at level 1. -/
theorem lowerThreshold_of_pos : ∀ {level : Level}, 1 ≤ level.val → lowerThreshold level = 100 + 150 * level.val
  | 0, h => absurd h (by decide)
  | 1, _ => rfl
  | 2, _ => rfl
  | 3, _ => rfl
  | 4, _ => rfl

theorem levelBelow_val_add_one : ∀ {level : Level}, 1 ≤ level.val → (levelBelow level).val + 1 = level.val
  | 0, h => absurd h (by decide)
  | 1, _ => rfl
  | 2, _ => rfl
  | 3, _ => rfl
  | 4, _ => rfl

/-! ### The cases of R153 -/

section DemandAfter

variable {f holdTime n : Nat} {d : Level}

theorem demandAfter_raise (h : d.val < (raiseLevel f).val) : demandAfter f holdTime d n = (raiseLevel f, 0) :=
  if_pos h

theorem demandAfter_lower (hk : (raiseLevel f).val ≤ d.val) (hd : 1 ≤ d.val) (hf : f < 100 + 150 * d.val)
    (hn : holdTime ≤ n) : demandAfter f holdTime d n = (levelBelow d, 0) := by
  have hlow : f < lowerThreshold d := lowerThreshold_of_pos hd ▸ hf
  rw [demandAfter, if_neg (Fin.not_lt.2 hk), if_pos ⟨hd, hlow, hn⟩]

theorem demandAfter_hold (hk : (raiseLevel f).val ≤ d.val)
    (h : d.val = 0 ∨ 100 + 150 * d.val ≤ f ∨ n < holdTime) :
    demandAfter f holdTime d n = (d, min 65535 (n + 1)) := by
  have hstands : ¬(1 ≤ d.val ∧ f < lowerThreshold d ∧ holdTime ≤ n) := by
    rintro ⟨hd, hf, hn⟩
    rw [lowerThreshold_of_pos hd] at hf
    omega
  rw [demandAfter, if_neg (Fin.not_lt.2 hk), if_neg hstands]
  rfl

end DemandAfter

/-! ### What D is computed from -/

theorem holdTime_of_config {s : State} {c : Configuration} (h : s.station.config = some c) :
    s.holdTime = 4 * 4 ^ c.holdCode.val := by
  rw [State.holdTime, h, ← Nat.pow_succ']

theorem fillPermille_of_config {s : State} {c : Configuration} (h : s.station.config = some c) :
    s.fillPermille = 1000 * (s.memory.staging.length + s.memory.storedCount) / (2 ^ 24 / 2 ^ c.channelCode.val) := by
  rw [State.fillPermille, State.capacity, h]
  rfl

theorem nextDemand_of_run_or_flush {s : State} (h : s.station.phase = .run ∨ s.station.phase = .flush) :
    s.nextDemand = demandAfter s.fillPermille s.holdTime s.presence.demand s.presence.holdCounter := by
  rcases h with h | h <;> rw [State.nextDemand, h]

/-- What part 4 of the tick computes f and D from stands in `t` as in `s` (R151 to R154). -/
structure DemandInputsKept (s t : State) : Prop where
  memory : t.memory = s.memory
  station : t.station = s.station
  demand : t.presence.demand = s.presence.demand
  holdCounter : t.presence.holdCounter = s.presence.holdCounter

namespace DemandInputsKept

variable {s t u : State}

theorem trans (h : DemandInputsKept s t) (k : DemandInputsKept t u) : DemandInputsKept s u where
  memory := k.memory.trans h.memory
  station := k.station.trans h.station
  demand := k.demand.trans h.demand
  holdCounter := k.holdCounter.trans h.holdCounter

theorem fillPermille_eq (h : DemandInputsKept s t) : t.fillPermille = s.fillPermille := by
  simp only [State.fillPermille, State.held, State.capacity, h.memory, h.station]

theorem nextDemand_eq (h : DemandInputsKept s t) : t.nextDemand = s.nextDemand := by
  simp only [State.nextDemand, State.holdTime, h.fillPermille_eq, h.station, h.demand, h.holdCounter]

end DemandInputsKept

theorem agePeers_demandInputsKept (s : State) : DemandInputsKept s (agePeers s) := ⟨rfl, rfl, rfl, rfl⟩

theorem ageOutIngest_demandInputsKept (s : State) : DemandInputsKept s (ageOutIngest s) := by
  unfold ageOutIngest
  split
  · constructor <;> simp
  · exact ⟨rfl, rfl, rfl, rfl⟩

theorem ageIngest_demandInputsKept (s : State) : DemandInputsKept s (ageIngest s) := by
  unfold ageIngest
  refine .trans ?_ (ageOutIngest_demandInputsKept _)
  exact ⟨rfl, rfl, rfl, rfl⟩

theorem openRing_demandInputsKept (s : State) : DemandInputsKept s (openRing s) := by
  unfold openRing
  split <;> exact ⟨rfl, rfl, rfl, rfl⟩

theorem advanceReturn_demandInputsKept (s : State) : DemandInputsKept s (advanceReturn s) := by
  unfold advanceReturn
  refine .trans ?_ (openRing_demandInputsKept _)
  exact ⟨rfl, rfl, rfl, rfl⟩

/-- Parts 1 to 3 of the tick leave what part 4 starts from (R140). -/
theorem beforeLevels_demandInputsKept (s : State) :
    DemandInputsKept s (advanceReturn (ageIngest (agePeers s))) :=
  (agePeers_demandInputsKept s).trans
    ((ageIngest_demandInputsKept _).trans (advanceReturn_demandInputsKept _))

/-! ### The tick -/

/-- Part 5 of the tick moves nothing of the presence block but the sequence (R141). -/
theorem announce_presence (s : State) :
    (announce s).presence = { s.presence with sequence := s.presence.sequence + 1 } :=
  queuePresence_presence _ _

theorem exec_paceTick_next {s : State} (hr : s.resetHeld = false) :
    ∃ t, exec .paceTick s = .next t ∧ t.presence = (paceTick s).presence :=
  ⟨_, drainEvent_free s (paceTick s) hr, by rw [report_presence, settleFrom_presence]⟩

section PaceTick

variable {s : State}

theorem paceTick_presence (h : s.presence.ticking = true) :
    (paceTick s).presence =
      (announce (computeLevels (advanceReturn (ageIngest (agePeers s))))).presence := by
  rw [paceTick, if_pos h]

theorem paceTick_fill (h : s.presence.ticking = true) : (paceTick s).presence.fill = s.fillPermille := by
  rw [paceTick_presence h, announce_presence, ← (beforeLevels_demandInputsKept s).fillPermille_eq]
  rfl

theorem paceTick_demand (h : s.presence.ticking = true) : (paceTick s).presence.demand = s.nextDemand.1 := by
  rw [paceTick_presence h, announce_presence, ← (beforeLevels_demandInputsKept s).nextDemand_eq]
  rfl

theorem paceTick_holdCounter (h : s.presence.ticking = true) :
    (paceTick s).presence.holdCounter = s.nextDemand.2 := by
  rw [paceTick_presence h, announce_presence, ← (beforeLevels_demandInputsKept s).nextDemand_eq]
  rfl

end PaceTick

/-- Settles O49: the tick leaves f and what R153 makes of D and the hold counter, and each clause is one of its cases. -/
theorem demandFollowsFill : Obligations.DemandFollowsFill := by
  intro c f hold k s hr htick hphase hc hf hhold hk
  rw [← fillPermille_of_config hc] at hf
  rw [← holdTime_of_config hc] at hhold
  rw [← raiseLevel_val] at hk
  subst hf hhold hk
  obtain ⟨t, hnext, ht⟩ := exec_paceTick_next hr
  have hafter := nextDemand_of_run_or_flush hphase
  have hfill : t.presence.fill = s.fillPermille := by rw [ht, paceTick_fill htick]
  have hdemand : t.presence.demand = s.nextDemand.1 := by rw [ht, paceTick_demand htick]
  have hcounter : t.presence.holdCounter = s.nextDemand.2 := by rw [ht, paceTick_holdCounter htick]
  rw [hafter] at hdemand hcounter
  refine ⟨t, hnext, hfill, fun hraise => ?raise, fun hk hd hlow hn => ?lower, fun hk hstands => ?hold⟩
  case raise =>
    rw [demandAfter_raise hraise] at hdemand hcounter
    exact ⟨congrArg Fin.val hdemand, hcounter⟩
  case lower =>
    rw [demandAfter_lower hk hd hlow hn] at hdemand hcounter
    rw [hdemand]
    exact ⟨levelBelow_val_add_one hd, hcounter⟩
  case hold =>
    rw [demandAfter_hold hk hstands] at hdemand hcounter
    exact ⟨hdemand, hcounter⟩

end Sys2Proof.Machine
end

section
/-! PROOFS. One step, said once: each command's effect, the parts of the state that it may reach, what follows it at the
same event, and how an invariant is carried through a step (R93, R166, R169, R175). -/

namespace Sys2Proof.Machine

/-! ### The effect of a command -/

/-- The commands that start the station afresh (R169). -/
def resets : Instr → Bool
  | .powerOn _ => true
  | .resetAssert => true
  | .resetRelease _ => true
  | _ => false

/-- What a command itself makes of the state: before anything else settles at the same event, and before the report. -/
def effect : Instr → State → State
  | .powerOn straps, s => sampleStraps straps (freshStation s)
  | .resetAssert, s => heldInReset s
  | .resetRelease straps, s => sampleStraps straps (freshStation s)
  | .identify, s => onCommand s (answer (resultOk :: identifyReply s) s)
  | .loadConfig record straps, s => onArguments .loadConfig s (loadConfiguration record.toList straps s)
  | .readStatus, s => onCommand s (answer (resultOk :: statusReply s) s)
  | .readFaults, s => onCommand s (snapshotFaults s)
  | .setAlertMask mask, s =>
    onArguments .setAlertMask s (answer [resultOk] { s with faults := { s.faults with alertMask := mask.setWidth 6 } })
  | .readCounters, s => onCommand s (answer (resultOk :: countersReply s.counters) s)
  | .readSegment position, s =>
    onArguments .readSegment s (answer (resultOk :: segmentReply (s.segmentAt position.toNat)) s)
  | .readGap position, s => onArguments .readGap s (answer (resultOk :: gapReply (nth s.gaps.entries position.toNat)) s)
  | .readPeer address, s => onArguments .readPeer s (answer (resultOk :: peerRecord s address) s)
  | .rearmMarkers mask, s => onArguments .rearmMarkers s (answer [resultOk] (rearmNamed mask s))
  | .stopRun, s =>
    onCommand s (if s.station.phase = .run then answer [resultOk] (takeStop s) else answer [resultRefusedState] s)
  | .softReset, s => onCommand s (answer [resultOk] (softResetStation s))
  | .unknownCommand code, s =>
    if 1 ≤ code.toNat ∧ code.toNat ≤ 12 then s else onCommand s (answer [resultUnknownCommand] s)
  | .scsRise, s => endTransaction s
  | .sampleSetTaken lanes, s => if s.intake.phase = .taking then takeSampleSet lanes s else s
  | .laneAlignmentChange lane out, s => setLane lane out s
  | .startEdge, s => takeStart s
  | .stopEdge, s => if s.station.phase = .run then takeStop s else s
  | .markerEdge line, s => onLine line (edgeSeen s.notedIndex) s
  | .markerInactiveLevel line, s => onLine line inactiveSeen s
  | .markerActiveInRecovery line, s => onLine line (fun _ l => activeSeen l) s
  | .markerQualify line now, s => qualifyMarker line now s
  | .markerRecoveryEnd line, s => onLine line (fun _ l => recoveryEnded l) s
  | .markerWindowLeave now, s => { s with markers := { s.markers with window := windowAfter now s.markers.window } }
  | .boundaryApply, s => considerHead s
  | .blockWriteComplete, s => completeWrite s
  | .blockReadComplete corrected uncorrectable, s => completeRead corrected uncorrectable s
  | .refreshComplete, s => completeRefresh s
  | .refreshExpiry, s => refreshExpired s
  | .thermalReading celsius, s =>
    { s with memory := { s.memory with thermal := thermalAfter s.memory.thermal celsius } }
  | .trailerPlace, s => takeIfDue DueFrame.isTrailer s
  | .gapFramePlace, s => takeIfDue DueFrame.isGap s
  | .dataFrameStart, s => takeIfDue DueFrame.isData s
  | .memoryGapPlace, s => placeMemoryGap s
  | .flushAgeExpiry, s => flushAgeExpired s
  | .unitHeaderArrival header sent, s => if s.awaitingEnd then s else arriveHeader header.toList (noteSent sent s)
  | .unitEnd rest, s => endUnit rest s
  | .forwardingEnd arrived, s => endForwarding (noteReceived arrived s)
  | .noteInsertionEnd arrived, s => endNote (noteReceived arrived s)
  | .frameInsertionComplete arrived, s => endFrame (noteReceived arrived s)
  | .paceTick, s => paceTick s
  | .peerStaleExpiry address, s => judgePeer (fun phase => phase == .live || phase == .mismatched) address s
  | .peerAbsentExpiry address, s => judgePeer (fun phase => phase == .stale) address s
  | .ingestAgeOut, s => ageOutIngest s
  | .ringOpen, s => openRing s
  | .flushComplete, s => completeFlush s
  | .scsFall, s => if s.port.phase = .idle then movePort .command s else s
  | .commandByteReceived command, s => onCommand s (movePort (.arguments command) s)
  | .lastReplyByteClockedOut, s => if s.port.phase = .reply then { s with port := { phase := .done } } else s

/-- The commands after which frame starts and the flush completion are settled at the same event (R93, R166). -/
def drains : Instr → Bool
  | .stopRun => true
  | .sampleSetTaken _ => true
  | .stopEdge => true
  | .markerQualify _ _ => true
  | .boundaryApply => true
  | .blockWriteComplete => true
  | .blockReadComplete _ _ => true
  | .trailerPlace => true
  | .gapFramePlace => true
  | .dataFrameStart => true
  | .memoryGapPlace => true
  | .flushAgeExpiry => true
  | .unitEnd _ => true
  | .frameInsertionComplete _ => true
  | .paceTick => true
  | .flushComplete => true
  | _ => false

/-- A command while RESET# is asserted: the lane alignment pins alone are followed (log 12). -/
def heldEffect : Instr → State → State
  | .laneAlignmentChange lane out, s => setLane lane out s
  | _, s => s

/-- The effect with what follows it at the same event. -/
def settled (c : Instr) (s : State) : State := if drains c then settleFrom s (effect c s) else effect c s

/-- The next state of a command. -/
def nextOf (c : Instr) (s : State) : State :=
  if resets c then effect c s else if s.resetHeld then heldEffect c s else report s (settled c s)

theorem exec_eq_nextOf (c : Instr) (s : State) : exec c s = .next (nextOf c s) := by
  cases c <;> rfl

/-- The next state of a command that `exec` answers with. -/
theorem eq_nextOf_of_exec {c : Instr} {s t : State} (h : exec c s = .next t) : t = nextOf c s := by
  rw [exec_eq_nextOf] at h
  exact (Host.Outcome.next.inj h).symm

theorem nextOf_free {c : Instr} {s : State} (hc : resets c = false) (hr : s.resetHeld = false) :
    nextOf c s = report s (settled c s) := by
  simp [nextOf, hc, hr]

/-! ### The parts a command may reach -/

/-- The parts of the state that the effect of a command may reach. -/
def reach : Instr → List Part
  | .powerOn _ | .resetAssert | .resetRelease _ =>
    [.intake, .memory, .gaps, .markers, .table, .assembler, .spine, .presence, .station, .port, .faults, .counters,
      .resetHeld]
  | .identify | .readStatus | .readCounters | .readSegment _ | .readGap _ | .readPeer _ | .unknownCommand _ | .scsFall
  | .commandByteReceived _ | .lastReplyByteClockedOut => [.port]
  | .readFaults | .setAlertMask _ | .scsRise => [.port, .faults]
  | .loadConfig _ _ => [.memory, .markers, .spine, .presence, .station, .port, .faults, .counters]
  | .rearmMarkers _ => [.markers, .port]
  | .stopRun => [.intake, .memory, .gaps, .markers, .table, .station, .port, .faults, .counters]
  | .softReset =>
    [.intake, .memory, .gaps, .markers, .table, .assembler, .spine, .presence, .station, .port, .faults]
  | .sampleSetTaken _ | .stopEdge => [.intake, .memory, .gaps, .markers, .table, .station, .faults, .counters]
  | .laneAlignmentChange _ _ => [.intake]
  | .startEdge => [.intake, .memory, .gaps, .markers, .table, .assembler, .station, .faults]
  | .markerEdge _ | .markerInactiveLevel _ | .markerActiveInRecovery _ | .markerRecoveryEnd _
  | .markerWindowLeave _ => [.markers]
  | .markerQualify _ _ => [.markers, .table, .spine, .faults, .counters]
  | .boundaryApply => [.table, .faults, .counters]
  | .blockWriteComplete | .refreshComplete | .refreshExpiry => [.memory, .faults, .counters]
  | .blockReadComplete _ _ => [.memory, .table, .assembler, .spine, .faults, .counters]
  | .thermalReading _ => [.memory]
  | .trailerPlace | .gapFramePlace | .dataFrameStart =>
    [.memory, .gaps, .table, .assembler, .spine, .faults, .counters]
  | .memoryGapPlace => [.table, .assembler, .spine]
  | .flushAgeExpiry => [.assembler]
  | .unitHeaderArrival _ _ => [.spine, .faults, .counters]
  | .unitEnd _ => [.table, .spine, .presence, .station, .faults, .counters]
  | .forwardingEnd _ | .noteInsertionEnd _ | .frameInsertionComplete _ | .ringOpen => [.spine]
  | .paceTick | .ingestAgeOut => [.presence, .spine]
  | .peerStaleExpiry _ | .peerAbsentExpiry _ => [.presence]
  | .flushComplete => [.station, .assembler]

theorem sameBut_refl (parts : List Part) (s : State) : sameBut parts s s := by
  intro p _
  cases p <;> rfl

theorem sameBut_trans {parts : List Part} {s t u : State} (h : sameBut parts s t) (k : sameBut parts t u) :
    sameBut parts s u := by
  intro p hp
  have h' := h p hp
  have k' := k p hp
  cases p <;> exact k'.trans h'

theorem sameBut_mono {parts more : List Part} {s t : State} (h : sameBut parts s t) (hsub : parts ⊆ more) :
    sameBut more s t := fun p hp => h p fun hm => hp (hsub hm)

theorem sameBut_ite {parts : List Part} {s t u : State} {c : Prop} [Decidable c] (ht : sameBut parts s t)
    (hu : sameBut parts s u) : sameBut parts s (if c then t else u) := by
  split <;> assumption

/-- An effect in the command's own state of the port, or none. -/
theorem onCommand_sameBut {parts : List Part} {s t : State} (h : sameBut parts s t) :
    sameBut parts s (onCommand s t) := sameBut_ite h (sameBut_refl _ _)

theorem onArguments_sameBut {parts : List Part} (c : ArgCommand) {s t : State} (h : sameBut parts s t) :
    sameBut parts s (onArguments c s t) := sameBut_ite h (sameBut_refl _ _)

theorem answer_sameBut {parts : List Part} (bytes : List Byte) {s t : State} (h : sameBut parts s t)
    (hp : .port ∈ parts) : sameBut parts s (answer bytes t) := by
  intro p hn
  have hsame := h p hn
  cases p <;> simp_all [Part.same]

theorem takeStop_sameBut (s : State) :
    sameBut [.intake, .memory, .gaps, .markers, .table, .station, .faults, .counters] s (takeStop s) := by
  unfold takeStop
  split <;> intro p hp <;> cases p <;> simp [Part.same] at hp ⊢

theorem takeSampleSet_sameBut (lanes : Vector Sample 8) (s : State) :
    sameBut [.intake, .memory, .gaps, .markers, .table, .station, .faults, .counters] s (takeSampleSet lanes s) := by
  intro p hp
  cases p <;> simp [Part.same] at hp ⊢

theorem takeStart_sameBut (s : State) :
    sameBut [.intake, .memory, .gaps, .markers, .table, .assembler, .station, .faults] s (takeStart s) := by
  unfold takeStart
  split <;> intro p hp <;> cases p <;> simp [Part.same] at hp ⊢

theorem acceptConfiguration_sameBut (c : Configuration) (s : State) :
    sameBut [.memory, .markers, .spine, .presence, .station, .faults, .counters] s (acceptConfiguration c s) := by
  intro p hp
  cases p <;> simp [Part.same, acceptConfiguration] at hp ⊢

theorem sampleStraps_sameBut (straps : BitVec 4) (s : State) :
    sameBut [.spine, .presence] s (sampleStraps straps s) := by
  intro p hp
  cases p <;> simp [Part.same] at hp ⊢

theorem softResetStation_sameBut (s : State) :
    sameBut [.intake, .memory, .gaps, .markers, .table, .assembler, .spine, .presence, .station, .faults] s
      (softResetStation s) := by
  intro p hp
  cases p <;> simp [Part.same] at hp ⊢

theorem loadConfiguration_sameBut (record : List Byte) (straps : BitVec 4) (s : State) :
    sameBut [.memory, .markers, .spine, .presence, .station, .port, .faults, .counters] s
      (loadConfiguration record straps s) := by
  have hstraps : sameBut [.memory, .markers, .spine, .presence, .station, .port, .faults, .counters] s
      (sampleStraps straps s) := sameBut_mono (sampleStraps_sameBut straps s) (by simp)
  unfold loadConfiguration
  split
  · split
    · refine answer_sameBut _ (sameBut_trans hstraps ?_) (by simp)
      exact sameBut_mono (acceptConfiguration_sameBut _ _) (by simp)
    · refine answer_sameBut _ (sameBut_trans hstraps ?_) (by simp)
      intro p hp
      cases p <;> simp [Part.same] at hp ⊢
  · exact answer_sameBut _ hstraps (by simp)

theorem onLine_sameBut (line : Fin 4) (next : LineSetup → MarkerLine → Option MarkerLine) (s : State) :
    sameBut [.markers] s (onLine line next s) := by
  unfold onLine
  repeat' split
  all_goals intro p hp; cases p <;> simp [Part.same] at hp ⊢

theorem acceptMarker_sameBut (line : Fin 4) (noted now : Nat) (s : State) :
    sameBut [.markers, .table, .spine, .faults, .counters] s (acceptMarker line noted now s) := by
  intro p hp
  cases p <;> simp [Part.same, acceptMarker] at hp ⊢

/-- What a qualification comes to: nothing, an accepted marker, or a suppressed one (R57, R63). -/
theorem qualifyMarker_cases (line : Fin 4) (now : Nat) (s : State) :
    qualifyMarker line now s = s ∨
    ∃ setup l noted s₁, s.watchedLine line = some (setup, l) ∧ l.phase = .qualifying ∧ l.noted = some noted ∧
      s₁ = setLine line { phase := .latched, latch := true } s ∧
      (s₁.admitsMarker = true ∧ qualifyMarker line now s = acceptMarker line noted now s₁ ∨
        s₁.admitsMarker = false ∧ qualifyMarker line now s = suppressMarker s₁) := by
  unfold qualifyMarker
  split
  · exact .inl rfl
  · next setup l hl =>
    split
    · next noted hphase hnoted =>
      refine .inr ⟨setup, l, noted, _, hl, hphase, hnoted, rfl, ?_⟩
      cases hadmits : (setLine line { phase := .latched, latch := true } s).admitsMarker <;> simp [hadmits]
    · exact .inl rfl

theorem setLine_sameBut (line : Fin 4) (l : MarkerLine) (s : State) : sameBut [.markers] s (setLine line l s) := by
  intro p hp; cases p <;> simp [Part.same] at hp ⊢

theorem suppressMarker_sameBut (s : State) : sameBut [.faults, .counters] s (suppressMarker s) := by
  intro p hp; cases p <;> simp [Part.same] at hp ⊢

theorem qualifyMarker_sameBut (line : Fin 4) (now : Nat) (s : State) :
    sameBut [.markers, .table, .spine, .faults, .counters] s (qualifyMarker line now s) := by
  rcases qualifyMarker_cases line now s with h | ⟨_, _, noted, s₁, _, _, _, rfl, ⟨_, h⟩ | ⟨_, h⟩⟩ <;> rw [h]
  · exact sameBut_refl _ s
  · exact sameBut_trans (sameBut_mono (setLine_sameBut _ _ s) (by simp)) (acceptMarker_sameBut _ _ _ _)
  · exact sameBut_trans (sameBut_mono (setLine_sameBut _ _ s) (by simp))
      (sameBut_mono (suppressMarker_sameBut _) (by simp))

theorem portFreed_sameBut (s : State) : sameBut [.memory, .faults, .counters] s (portFreed s) := by
  intro p hp; cases p <;> simp [Part.same] at hp ⊢

theorem storeHead_sameBut (s : State) : sameBut [.memory] s (storeHead s) := by
  unfold storeHead
  split <;> intro p hp <;> cases p <;> simp [Part.same] at hp ⊢

theorem completeWrite_sameBut (s : State) : sameBut [.memory, .faults, .counters] s (completeWrite s) := by
  unfold completeWrite
  refine sameBut_ite (portFreed_sameBut s) (sameBut_ite (sameBut_trans ?_ (portFreed_sameBut _)) (sameBut_refl _ s))
  exact sameBut_mono (storeHead_sameBut s) (by simp)

theorem countRead_sameBut (slot : Nat) (x : Slot) (s : State) :
    sameBut [.memory, .faults, .counters] s (countRead slot x s) := by
  unfold countRead
  refine sameBut_ite ?_ ?_ <;> intro p hp <;> cases p <;> simp [Part.same] at hp ⊢

/-- Of the memory a read's count changes the slot's errors and the request (R24, R34). -/
@[simp] theorem countRead_memory (slot : Nat) (x : Slot) (s : State) :
    (countRead slot x s).memory = { s.memory with dram := dramWrite slot x s.memory.dram, readRequest := none } := by
  unfold countRead
  simp only
  split <;> rfl

/-- The assembler's part of a read of a slot with these contents: the block, or the uncorrectable report (R107, R111). -/
def afterRead (w : WorkingCopy) (slot : Nat) (x : Slot) (s : State) : State :=
  if x.uncorrectable then truncateFrame w x.block (countRead slot x s) else takeBlock w x.block (countRead slot x s)

/-- The read in progress is the assembler's: of the block it requested, from a slot that holds one (R24). -/
structure ReadsSlot (s : State) (w : WorkingCopy) (number : Nat) (x : Slot) : Prop where
  reading : s.memory.current = some .read
  assembling : s.assembler.phase = .assembling w
  requested : s.memory.readRequest = some number
  stored : dramRead (s.readSlot w number) s.memory.dram = some x

theorem completeRead_taken {s : State} {w : WorkingCopy} {number : Nat} {x : Slot} (h : ReadsSlot s w number x)
    (corrected : Nat) (uncorrectable : Bool) :
    completeRead corrected uncorrectable s =
      portFreed (afterRead w (s.readSlot w number) (x.found corrected uncorrectable) s) := by
  have hcurrent : ¬s.memory.leftOver PortOp.isRead = true := by
    have hread := h.reading
    unfold CaptureMemory.current at hread
    unfold CaptureMemory.leftOver
    split at hread <;> simp_all
  simp only [completeRead, if_neg hcurrent, h.reading, h.assembling, h.requested, h.stored, afterRead]

/-- What a read completion comes to: nothing, the end of a read left over, or the assembler's part (R24, R36). -/
theorem completeRead_cases (corrected : Nat) (uncorrectable : Bool) (s : State) :
    completeRead corrected uncorrectable s = s ∨
    (s.memory.leftOver PortOp.isRead = true ∧ completeRead corrected uncorrectable s = portFreed s) ∨
    ∃ w number x, ReadsSlot s w number x ∧
      completeRead corrected uncorrectable s =
        portFreed (afterRead w (s.readSlot w number) (x.found corrected uncorrectable) s) := by
  by_cases hleft : s.memory.leftOver PortOp.isRead = true
  · exact .inr (.inl ⟨hleft, by rw [completeRead, if_pos hleft]⟩)
  · rw [completeRead, if_neg hleft]
    split
    · next w number hread hphase hrequest =>
      cases hx : dramRead (s.readSlot w number) s.memory.dram with
      | none => exact .inl (by simp only [hx])
      | some x => exact .inr (.inr ⟨w, number, x, ⟨hread, hphase, hrequest, hx⟩, by simp only [hx, afterRead]⟩)
    · exact .inl rfl

theorem afterRead_sameBut (w : WorkingCopy) (slot : Nat) (x : Slot) (s : State) :
    sameBut [.memory, .table, .assembler, .spine, .faults, .counters] s (afterRead w slot x s) := by
  refine sameBut_trans (sameBut_mono (countRead_sameBut slot x s) (by simp)) (sameBut_ite ?_ ?_) <;>
    intro p hp <;> cases p <;> simp [Part.same] at hp ⊢

theorem completeRead_sameBut (corrected : Nat) (uncorrectable : Bool) (s : State) :
    sameBut [.memory, .table, .assembler, .spine, .faults, .counters] s (completeRead corrected uncorrectable s) := by
  have hfreed (t : State) : sameBut [.memory, .table, .assembler, .spine, .faults, .counters] t (portFreed t) :=
    sameBut_mono (portFreed_sameBut t) (by simp)
  rcases completeRead_cases corrected uncorrectable s with h | ⟨_, h⟩ | ⟨w, number, x, _, h⟩ <;> rw [h]
  · exact sameBut_refl _ s
  · exact hfreed s
  · exact sameBut_trans (afterRead_sameBut _ _ _ s) (hfreed _)

theorem completeRefresh_sameBut (s : State) : sameBut [.memory, .faults, .counters] s (completeRefresh s) := by
  unfold completeRefresh
  refine sameBut_ite (portFreed_sameBut s) (sameBut_ite ?_ (sameBut_refl _ s))
  intro p hp; cases p <;> simp [Part.same] at hp ⊢

theorem refreshExpired_sameBut (s : State) : sameBut [.memory, .faults, .counters] s (refreshExpired s) := by
  unfold refreshExpired
  split
  · exact sameBut_refl _ s
  · refine sameBut_ite ?_ ?_ <;> intro p hp <;> cases p <;> simp [Part.same] at hp ⊢

theorem takeDueFrame_sameBut (due : DueFrame) (s : State) :
    sameBut [.memory, .gaps, .table, .assembler, .spine, .faults, .counters] s (takeDueFrame due s) := by
  intro p hp; cases p <;> simp [Part.same] at hp ⊢

theorem takeIfDue_sameBut (kind : DueFrame → Bool) (s : State) :
    sameBut [.memory, .gaps, .table, .assembler, .spine, .faults, .counters] s (takeIfDue kind s) := by
  unfold takeIfDue
  split
  · exact sameBut_ite (takeDueFrame_sameBut _ s) (sameBut_refl _ s)
  · exact sameBut_refl _ s

theorem placeMemoryGap_sameBut (s : State) : sameBut [.table, .assembler, .spine] s (placeMemoryGap s) := by
  intro p hp; cases p <;> simp [Part.same] at hp ⊢

theorem completeFlush_sameBut (s : State) : sameBut [.station, .assembler] s (completeFlush s) := by
  intro p hp; cases p <;> simp [Part.same] at hp ⊢

theorem noteSent_sameBut (sent : Nat) (s : State) : sameBut [.spine] s (noteSent sent s) := by
  unfold noteSent
  refine sameBut_ite ?_ (sameBut_refl _ s)
  intro p hp; cases p <;> simp [Part.same] at hp ⊢

theorem arriveHeader_sameBut (header : List Byte) (s : State) :
    sameBut [.spine, .faults, .counters] s (arriveHeader header s) := by
  unfold arriveHeader
  split <;> intro p hp <;> cases p <;> simp [Part.same, acceptUnit] at hp ⊢

theorem noteReceived_sameBut (arrived : List Byte) (s : State) : sameBut [.spine] s (noteReceived arrived s) := by
  intro p hp; cases p <;> simp [Part.same] at hp ⊢

theorem endForwarding_sameBut (s : State) : sameBut [.spine] s (endForwarding s) := by
  unfold endForwarding
  repeat' split
  all_goals intro p hp; cases p <;> simp [Part.same] at hp ⊢

theorem endNote_sameBut (s : State) : sameBut [.spine] s (endNote s) := by
  unfold endNote
  split <;> intro p hp <;> cases p <;> simp [Part.same] at hp ⊢

theorem endFrame_sameBut (s : State) : sameBut [.spine] s (endFrame s) := by
  unfold endFrame
  split <;> intro p hp <;> cases p <;> simp [Part.same] at hp ⊢

theorem ownUnit_sameBut (header : List Byte) (s : State) :
    sameBut [.spine, .presence, .station, .counters] s (ownUnit header s) := by
  unfold ownUnit ownNote ownFrame
  repeat' split
  all_goals intro p hp; cases p <;> simp [Part.same] at hp ⊢

theorem peerMarker_sameBut (header : List Byte) (s : State) :
    sameBut [.table, .faults, .counters] s (peerMarker header s) := by
  unfold peerMarker
  refine sameBut_ite ?_ (sameBut_refl _ s)
  intro p hp; cases p <;> simp [Part.same] at hp ⊢

theorem handOn_sameBut (header : List Byte) (s : State) :
    sameBut [.table, .spine, .presence, .station, .faults, .counters] s (handOn header s) := by
  have hown : sameBut [.table, .spine, .presence, .station, .faults, .counters] s (ownNote header s) := by
    unfold ownNote
    repeat' split
    all_goals intro p hp; cases p <;> simp [Part.same] at hp ⊢
  have hpeer : sameBut [.table, .spine, .presence, .station, .faults, .counters] s (peerPresence header s) := by
    unfold peerPresence
    split <;> intro p hp <;> cases p <;> simp [Part.same] at hp ⊢
  have hingest : sameBut [.table, .spine, .presence, .station, .faults, .counters] s (ingestNote header s) := by
    unfold ingestNote
    split <;> intro p hp <;> cases p <;> simp [Part.same] at hp ⊢
  have hmarker := sameBut_mono (peerMarker_sameBut header s)
    (more := [.table, .spine, .presence, .station, .faults, .counters]) (by simp)
  have hnone := sameBut_refl [.table, .spine, .presence, .station, .faults, .counters] s
  exact sameBut_ite hnone (sameBut_ite (sameBut_ite hown hnone) (sameBut_ite (sameBut_ite hpeer hnone)
    (sameBut_ite hmarker (sameBut_ite hingest hnone))))

theorem endTransit_sameBut (fate : ArrivalFate) (body : List Byte) (s : State) :
    sameBut [.spine] s (endTransit fate body s) := by
  refine sameBut_ite ?_ (sameBut_refl _ s)
  intro p hp; cases p <;> simp [Part.same] at hp ⊢

theorem judgeEnd_sameBut (header rest : List Byte) (fate : ArrivalFate) (s : State) :
    sameBut [.table, .spine, .presence, .station, .faults, .counters] s (judgeEnd header rest fate s) := by
  have hcheck : sameBut [.table, .spine, .presence, .station, .faults, .counters] s
      (if isGood header rest then s else countCheckError s) := by
    refine sameBut_ite (sameBut_refl _ s) ?_
    intro p hp; cases p <;> simp [Part.same] at hp ⊢
  have harb (t : State) : sameBut [.table, .spine, .presence, .station, .faults, .counters] t (arbitrate t) := by
    intro p hp; cases p <;> simp [Part.same] at hp ⊢
  have horphan (t : State) : sameBut [.table, .spine, .presence, .station, .faults, .counters] t (countOrphan t) := by
    intro p hp; cases p <;> simp [Part.same] at hp ⊢
  unfold judgeEnd
  refine sameBut_ite (sameBut_trans hcheck (horphan _)) (sameBut_ite (sameBut_trans ?_ (harb _)) hcheck)
  refine sameBut_ite (sameBut_trans hcheck ?_) (sameBut_trans hcheck (handOn_sameBut header _))
  exact sameBut_mono (ownUnit_sameBut header _) (by simp)

/-- What the end of a unit comes to: a runt, the end of a discarded unit, or a judged end (R119, R133). -/
theorem endUnit_cases (rest : List Byte) (s : State) :
    (s.spine.input = none ∧ endUnit rest s = countCheckError s) ∨
    ∃ a s₁, s.spine.input = some a ∧ s₁ = { s with spine := { s.spine with input := none } } ∧
      (a.fate = .discarded ∧ endUnit rest s = s₁ ∨
        a.fate ≠ .discarded ∧
          endUnit rest s = judgeEnd a.header rest a.fate (endTransit a.fate (keptBytes a.header rest) s₁)) := by
  unfold endUnit
  split
  · next h => exact .inl ⟨h, rfl⟩
  · next a h =>
    refine .inr ⟨a, _, h, rfl, ?_⟩
    by_cases hfate : a.fate = .discarded
    · exact .inl ⟨hfate, if_pos hfate⟩
    · exact .inr ⟨hfate, if_neg hfate⟩

theorem endUnit_sameBut (rest : List Byte) (s : State) :
    sameBut [.table, .spine, .presence, .station, .faults, .counters] s (endUnit rest s) := by
  rcases endUnit_cases rest s with ⟨_, h⟩ | ⟨a, s₁, _, rfl, ⟨_, h⟩ | ⟨_, h⟩⟩ <;> rw [h]
  · intro p hp; cases p <;> simp [Part.same] at hp ⊢
  · intro p hp; cases p <;> simp [Part.same] at hp ⊢
  · refine sameBut_trans (sameBut_mono (endTransit_sameBut _ _ _) (by simp)) (judgeEnd_sameBut _ _ _ _) |> sameBut_trans ?_
    intro p hp; cases p <;> simp [Part.same] at hp ⊢

theorem ageOutIngest_sameBut (s : State) : sameBut [.presence, .spine] s (ageOutIngest s) := by
  refine sameBut_ite ?_ (sameBut_refl _ s)
  intro p hp; cases p <;> simp [Part.same] at hp ⊢

theorem openRing_sameBut (s : State) : sameBut [.spine] s (openRing s) := by
  refine sameBut_ite ?_ (sameBut_refl _ s)
  intro p hp; cases p <;> simp [Part.same] at hp ⊢

theorem paceTick_sameBut (s : State) : sameBut [.presence, .spine] s (paceTick s) := by
  have hages : sameBut [.presence, .spine] s (ageIngest (agePeers s)) := by
    refine sameBut_trans ?_ (ageOutIngest_sameBut _)
    intro p hp; cases p <;> simp [Part.same] at hp ⊢
  have hreturn (t : State) : sameBut [.presence, .spine] t (advanceReturn t) := by
    refine sameBut_trans ?_ (sameBut_mono (openRing_sameBut _) (by simp))
    intro p hp; cases p <;> simp [Part.same] at hp ⊢
  refine sameBut_ite (sameBut_trans (sameBut_trans hages (hreturn _)) ?_) (sameBut_refl _ s)
  intro p hp; cases p <;> simp [Part.same, announce] at hp ⊢

theorem judgePeer_sameBut (phases : PeerPhase → Bool) (address : BitVec 4) (s : State) :
    sameBut [.presence] s (judgePeer phases address s) := by
  refine sameBut_ite ?_ (sameBut_refl _ s)
  intro p hp; cases p <;> simp [Part.same] at hp ⊢

theorem flushAgeExpired_sameBut (s : State) : sameBut [.assembler] s (flushAgeExpired s) := by
  refine sameBut_ite ?_ (sameBut_refl _ s)
  intro p hp; cases p <;> simp [Part.same] at hp ⊢

/-- A command reaches no part but those of `reach`. -/
theorem effect_sameBut (c : Instr) (s : State) : sameBut (reach c) s (effect c s) := by
  have hsame (parts : List Part) := sameBut_refl parts s
  have hanswer (parts : List Part) (bytes : List Byte) (h : .port ∈ parts) : sameBut parts s (answer bytes s) :=
    answer_sameBut bytes (sameBut_refl parts s) h
  have hmove (phase : PortPhase) : sameBut [.port] s (movePort phase s) := by
    intro p hp; cases p <;> simp [Part.same] at hp ⊢
  cases c with
  | powerOn straps => intro p hp; cases p <;> simp [Part.same, reach, effect] at hp ⊢
  | resetAssert => intro p hp; cases p <;> simp [Part.same, reach, effect] at hp ⊢
  | resetRelease straps => intro p hp; cases p <;> simp [Part.same, reach, effect] at hp ⊢
  | identify => exact onCommand_sameBut (hanswer _ _ (by simp [reach]))
  | loadConfig record straps => exact onArguments_sameBut _ (loadConfiguration_sameBut _ _ s)
  | readStatus => exact onCommand_sameBut (hanswer _ _ (by simp [reach]))
  | readFaults => refine onCommand_sameBut ?_; intro p hp; cases p <;> simp [Part.same, reach] at hp ⊢
  | setAlertMask mask => refine onArguments_sameBut _ ?_; intro p hp; cases p <;> simp [Part.same, reach] at hp ⊢
  | readCounters => exact onCommand_sameBut (hanswer _ _ (by simp [reach]))
  | readSegment position => exact onArguments_sameBut _ (hanswer _ _ (by simp [reach]))
  | readGap position => exact onArguments_sameBut _ (hanswer _ _ (by simp [reach]))
  | readPeer address => exact onArguments_sameBut _ (hanswer _ _ (by simp [reach]))
  | rearmMarkers mask => exact onArguments_sameBut _ (sameBut_answer_rearmNamed _ mask s)
  | stopRun =>
    refine onCommand_sameBut (sameBut_ite (answer_sameBut _ ?_ (by simp [reach])) (hanswer _ _ (by simp [reach])))
    exact sameBut_mono (takeStop_sameBut s) (by simp [reach])
  | softReset =>
    refine onCommand_sameBut (answer_sameBut _ ?_ (by simp [reach]))
    exact sameBut_mono (softResetStation_sameBut s) (by simp [reach])
  | unknownCommand code => exact sameBut_ite (hsame _) (onCommand_sameBut (hanswer _ _ (by simp [reach])))
  | scsRise => intro p hp; cases p <;> simp [Part.same, reach, effect] at hp ⊢
  | sampleSetTaken lanes => exact sameBut_ite (takeSampleSet_sameBut lanes s) (hsame _)
  | laneAlignmentChange lane out => intro p hp; cases p <;> simp [Part.same, reach, effect] at hp ⊢
  | startEdge => exact takeStart_sameBut s
  | stopEdge => exact sameBut_ite (takeStop_sameBut s) (hsame _)
  | markerEdge line => exact onLine_sameBut _ _ s
  | markerInactiveLevel line => exact onLine_sameBut _ _ s
  | markerActiveInRecovery line => exact onLine_sameBut _ _ s
  | markerQualify line now => exact qualifyMarker_sameBut line now s
  | markerRecoveryEnd line => exact onLine_sameBut _ _ s
  | markerWindowLeave now => intro p hp; cases p <;> simp [Part.same, reach, effect] at hp ⊢
  | boundaryApply => intro p hp; cases p <;> simp [Part.same, reach, effect] at hp ⊢
  | blockWriteComplete => exact completeWrite_sameBut s
  | blockReadComplete corrected uncorrectable => exact completeRead_sameBut corrected uncorrectable s
  | refreshComplete => exact completeRefresh_sameBut s
  | refreshExpiry => exact refreshExpired_sameBut s
  | thermalReading celsius => intro p hp; cases p <;> simp [Part.same, reach, effect] at hp ⊢
  | trailerPlace => exact takeIfDue_sameBut _ s
  | gapFramePlace => exact takeIfDue_sameBut _ s
  | dataFrameStart => exact takeIfDue_sameBut _ s
  | memoryGapPlace => exact placeMemoryGap_sameBut s
  | flushAgeExpiry => exact flushAgeExpired_sameBut s
  | unitHeaderArrival header sent =>
    refine sameBut_ite (hsame _) (sameBut_trans ?_ (arriveHeader_sameBut _ _))
    exact sameBut_mono (noteSent_sameBut sent s) (by simp [reach])
  | unitEnd rest => exact endUnit_sameBut rest s
  | forwardingEnd arrived => exact sameBut_trans (noteReceived_sameBut arrived s) (endForwarding_sameBut _)
  | noteInsertionEnd arrived => exact sameBut_trans (noteReceived_sameBut arrived s) (endNote_sameBut _)
  | frameInsertionComplete arrived => exact sameBut_trans (noteReceived_sameBut arrived s) (endFrame_sameBut _)
  | paceTick => exact paceTick_sameBut s
  | peerStaleExpiry address => exact judgePeer_sameBut _ address s
  | peerAbsentExpiry address => exact judgePeer_sameBut _ address s
  | ingestAgeOut => exact ageOutIngest_sameBut s
  | ringOpen => exact openRing_sameBut s
  | flushComplete => exact completeFlush_sameBut s
  | scsFall => exact sameBut_ite (hmove _) (hsame _)
  | commandByteReceived command => exact onCommand_sameBut (hmove _)
  | lastReplyByteClockedOut =>
    refine sameBut_ite ?_ (hsame _)
    intro p hp; cases p <;> simp [Part.same, reach] at hp ⊢

/-! ### The station's state at the end of a unit -/

/-- The station stands as it did, or has joined (R144). -/
def StaysOrJoins (s t : State) : Prop :=
  t.station = s.station ∨ s.station.phase = .joining ∧ t.station = { s.station with phase := .ready }

theorem StaysOrJoins.of_same {s t : State} (h : t.station = s.station) : StaysOrJoins s t := .inl h

theorem StaysOrJoins.phase_run {s t : State} (h : StaysOrJoins s t) :
    t.station.phase = .run ↔ s.station.phase = .run := by
  rcases h with h | ⟨hp, h⟩ <;> simp_all

theorem ownNote_staysOrJoins (header : List Byte) (s : State) : StaysOrJoins s (ownNote header s) := by
  unfold ownNote
  split
  · exact .inl rfl
  · split
    · by_cases hjoin : s.presence.joined = false ∧ s.station.phase = .joining
      · exact .inr ⟨hjoin.2, by simp [takeReturn, hjoin]⟩
      · exact .inl (by simp only [takeReturn, if_neg hjoin])
    · exact .inl rfl

theorem ownUnit_staysOrJoins (header : List Byte) (s : State) : StaysOrJoins s (ownUnit header s) := by
  unfold ownUnit ownFrame
  split
  · exact ownNote_staysOrJoins header s
  · split
    · split <;> exact .inl rfl
    · exact .inl rfl

/-- The hand-on by kind and source (R134): nothing, an own note, a peer's presence note or marker, an INGEST note. -/
theorem handOn_cases (header : List Byte) (s : State) :
    handOn header s = s ∨ handOn header s = ownNote header s ∨
    (s.isOwnSource header = false ∧ isPeerSource (sourceOf header) = true ∧ handOn header s = peerPresence header s) ∨
    handOn header s = peerMarker header s ∨ handOn header s = ingestNote header s := by
  unfold handOn
  split
  · exact .inl rfl
  · split
    · split
      · exact .inr (.inl rfl)
      · exact .inl rfl
    · next hown =>
      split
      · split
        · next hpeer => exact .inr (.inr (.inl ⟨by simpa using hown, hpeer, rfl⟩))
        · exact .inl rfl
      · split
        · exact .inr (.inr (.inr (.inl rfl)))
        · split
          · exact .inr (.inr (.inr (.inr rfl)))
          · exact .inl rfl

theorem peerPresence_sameBut (header : List Byte) (s : State) : sameBut [.presence] s (peerPresence header s) := by
  refine sameBut_ite (sameBut_refl _ s) ?_
  intro p hp; cases p <;> simp [Part.same] at hp ⊢

theorem ingestNote_sameBut (header : List Byte) (s : State) : sameBut [.spine, .presence] s (ingestNote header s) := by
  refine sameBut_ite ?_ ?_ <;> intro p hp <;> cases p <;> simp [Part.same] at hp ⊢

theorem handOn_staysOrJoins (header : List Byte) (s : State) : StaysOrJoins s (handOn header s) := by
  rcases handOn_cases header s with h | h | ⟨-, -, h⟩ | h | h <;> rw [h]
  · exact .inl rfl
  · exact ownNote_staysOrJoins header s
  · exact .inl (peerPresence_sameBut header s .station (by simp))
  · exact .inl (peerMarker_sameBut header s .station (by simp))
  · exact .inl (ingestNote_sameBut header s .station (by simp))

/-- What the judgement of a unit's end comes to (R133 to R136): from the state with a bad unit counted, an orphan counted,
an own or accepted good unit handed on, or nothing more. -/
theorem judgeEnd_cases (header rest : List Byte) (fate : ArrivalFate) (s : State) :
    ∃ s₁, (isGood header rest = true ∧ s₁ = s ∨ isGood header rest = false ∧ s₁ = countCheckError s) ∧
      (fate = .strippedOrphan ∧ judgeEnd header rest fate s = countOrphan s₁ ∨
        fate ≠ .strippedOrphan ∧ isGood header rest = false ∧ judgeEnd header rest fate s = s₁ ∨
        fate = .strippedOwn ∧ isGood header rest = true ∧ judgeEnd header rest fate s = arbitrate (ownUnit header s₁) ∨
        fate ≠ .strippedOrphan ∧ fate ≠ .strippedOwn ∧ isGood header rest = true ∧
          judgeEnd header rest fate s = arbitrate (handOn header s₁)) := by
  cases hgood : isGood header rest <;> cases fate <;> simp [judgeEnd, hgood]

theorem judgeEnd_staysOrJoins (header rest : List Byte) (fate : ArrivalFate) (s : State) :
    StaysOrJoins s (judgeEnd header rest fate s) := by
  obtain ⟨s₁, hs₁, h⟩ := judgeEnd_cases header rest fate s
  have hstation : s₁.station = s.station := by rcases hs₁ with ⟨-, rfl⟩ | ⟨-, rfl⟩ <;> rfl
  have hfrom {t : State} (h : StaysOrJoins s₁ t) : StaysOrJoins s (arbitrate t) := by
    unfold StaysOrJoins at h ⊢
    rwa [arbitrate_station, ← hstation]
  rcases h with ⟨-, h⟩ | ⟨-, -, h⟩ | ⟨-, -, h⟩ | ⟨-, -, -, h⟩ <;> rw [h]
  · exact .inl hstation
  · exact .inl hstation
  · exact hfrom (ownUnit_staysOrJoins header s₁)
  · exact hfrom (handOn_staysOrJoins header s₁)

theorem endUnit_staysOrJoins (rest : List Byte) (s : State) : StaysOrJoins s (endUnit rest s) := by
  rcases endUnit_cases rest s with ⟨-, h⟩ | ⟨a, s₁, -, rfl, ⟨-, h⟩ | ⟨-, h⟩⟩ <;> rw [h]
  · exact .inl rfl
  · exact .inl rfl
  · have hjudge := judgeEnd_staysOrJoins a.header rest a.fate
      (endTransit a.fate (keptBytes a.header rest) { s with spine := { s.spine with input := none } })
    unfold StaysOrJoins at hjudge ⊢
    rwa [endTransit_sameBut _ _ _ .station (by simp)] at hjudge

/-! ### Carrying an invariant through a step -/

/-- Frame starts, the pending MEMORY gap and the flush completion keep a condition (R93, R112, R166). -/
structure SettlingKeeps (P : State → Prop) : Prop where
  memoryGap : ∀ s, P s → P (placeMemoryGap s)
  due : ∀ due s, chooseFrame s = some due → P s → P (takeDueFrame due s)
  flush : ∀ s, P s → P (completeFlush s)

namespace SettlingKeeps

variable {P : State → Prop} (k : SettlingKeeps P)
include k

theorem considerFrames (fuel : Nat) (s : State) (h : P s) : P (considerFrames fuel s) := by
  induction fuel generalizing s with
  | zero => exact h
  | succ fuel ih =>
    rw [Machine.considerFrames]
    split
    · exact h
    · next due hdue => exact ih _ (k.due due s hdue h)

theorem settle (s : State) (h : P s) : P (settle s) := k.flush _ (k.considerFrames _ _ (k.memoryGap s h))

theorem settleFrom (before after : State) (h : P after) : P (settleFrom before after) := by
  unfold Machine.settleFrom
  split
  · exact h
  · exact k.settle after h

theorem takeIfDue (kind : DueFrame → Bool) (s : State) (h : P s) : P (takeIfDue kind s) := by
  unfold Machine.takeIfDue
  split
  · next due hdue =>
    split
    · exact k.due due s hdue h
    · exact h
  · exact h

end SettlingKeeps

/-- Every part of a step keeps a condition. -/
structure StepKeeps (P : State → Prop) : Prop extends SettlingKeeps P where
  queue : ∀ s rest, P s → P { s with pending := rest }
  fresh : ∀ straps s, P (sampleStraps straps (freshStation s))
  held : ∀ s, P (heldInReset s)
  lane : ∀ lane out s, P s → P (setLane lane out s)
  report : ∀ before s, P s → P (report before s)
  effect : ∀ c s, resets c = false → s.resetHeld = false → P s → P (effect c s)

namespace StepKeeps

variable {P : State → Prop} (k : StepKeeps P)
include k

theorem settled (c : Instr) (s : State) (hc : resets c = false) (hr : s.resetHeld = false) (h : P s) :
    P (settled c s) := by
  unfold Machine.settled
  split
  · exact k.settleFrom s _ (k.effect c s hc hr h)
  · exact k.effect c s hc hr h

theorem heldEffect (c : Instr) (s : State) (h : P s) : P (heldEffect c s) := by
  cases c with
  | laneAlignmentChange lane out => exact k.lane lane out s h
  | _ => exact h

theorem nextOf (c : Instr) (s : State) (h : P s) : P (nextOf c s) := by
  unfold Machine.nextOf
  split
  · next hc =>
    cases c with
    | powerOn straps => exact k.fresh straps s
    | resetAssert => exact k.held s
    | resetRelease straps => exact k.fresh straps s
    | _ => exact absurd hc (by simp [resets])
  · next hc =>
    split
    · exact k.heldEffect c s h
    · next hr => exact k.report s _ (k.settled c s (by simpa using hc) (by simpa using hr) h)

theorem exec {c : Instr} {s t : State} (hs : P s) (h : exec c s = .next t) : P t := by
  rw [eq_nextOf_of_exec h]
  exact k.nextOf c s hs

theorem step {s t : State} (hs : P s) (h : step s = .next t) : P t := by
  unfold Machine.step at h
  split at h
  · exact Host.Outcome.next.inj h ▸ hs
  · exact k.exec (k.queue s _ hs) h

end StepKeeps

/-! ### The queue of waiting commands -/

theorem effect_pending (c : Instr) (s : State) : (effect c s).pending = s.pending :=
  effect_sameBut c s .pending (by cases c <;> simp [reach])

theorem nextOf_pending (c : Instr) (s : State) : (nextOf c s).pending = s.pending := by
  have hsettled : (settled c s).pending = s.pending := by
    unfold settled
    split <;> simp [effect_pending]
  have hheld : (heldEffect c s).pending = s.pending := by cases c <;> rfl
  unfold nextOf
  split
  · exact effect_pending c s
  · split
    · exact hheld
    · rw [report_pending, hsettled]

/-- Settles O2: every command has a next state, and no part of it touches the queue. -/
theorem everyCommandCompletes : Obligations.EveryCommandCompletes :=
  fun c s => ⟨nextOf c s, exec_eq_nextOf c s, nextOf_pending c s⟩

/-- Settles O1: what a step is. -/
theorem stepRunsTheFront : Obligations.StepRunsTheFront := ⟨fun _ _ _ => rfl, fun _ => rfl⟩

end Sys2Proof.Machine
end

section
/-! PROOFS. What accrues in a step: counters rise within their ranges, and a flag that is set stays set, but by a report in
LIVE mode and at the end of a completed READ FAULTS (R174 to R178). -/

namespace Sys2Proof.Machine

/-! ### The flags of two words -/

theorem and_not_eq_zero_iff (x y : BitVec 24) :
    x &&& ~~~y = 0 ↔ ∀ i, x.getLsbD i = true → y.getLsbD i = true := by
  constructor
  · intro h i hi
    have hbit : (x &&& ~~~y).getLsbD i = false := by simp [h]
    have hlt : i < 24 := BitVec.lt_of_getLsbD hi
    simpa [hi, hlt] using hbit
  · intro h
    refine BitVec.eq_of_getLsbD_eq fun i hi => ?_
    cases hx : x.getLsbD i with
    | false => simp [hx]
    | true => simp [hx, h i hx, hi]

/-- The flag of every condition that stands is set (R176). -/
theorem flag_of_condition {s : State} (h : s.flagsFollow) {i : Nat} (hi : s.conditions.getLsbD i = true) :
    s.faults.flags.getLsbD i = true :=
  (and_not_eq_zero_iff _ _).1 h.1 i hi

/-! ### Counters that rise within their ranges -/

/-- The counters of `t` are at least those of `s`, and in range where those are (R174). -/
def CountersRise (s t : State) : Prop := s.counters.within → t.counters.within ∧ t.counters.atLeast s.counters

namespace CountersRise

theorem of_same {s t : State} (h : t.counters = s.counters) : CountersRise s t := by
  intro hs
  rw [h]
  exact ⟨hs, by simp [Counters.atLeast]⟩

theorem trans {s t u : State} (h : CountersRise s t) (k : CountersRise t u) : CountersRise s u := by
  intro hs
  obtain ⟨ht, hst⟩ := h hs
  obtain ⟨hu, htu⟩ := k ht
  refine ⟨hu, ?_⟩
  simp only [Counters.atLeast] at hst htu ⊢
  omega

end CountersRise

/-- Counters rise, and no flag that is set is cleared while the fault mode is LATCHED and stays so. -/
structure Accrues (s t : State) : Prop where
  mode : t.faults.mode = s.faults.mode
  flags : s.faults.mode = .latched → ∀ i, s.faults.flags.getLsbD i = true → t.faults.flags.getLsbD i = true
  counters : CountersRise s t

namespace Accrues

theorem of_same {s t : State} (hf : t.faults = s.faults) (hc : t.counters = s.counters) : Accrues s t where
  mode := congrArg _ hf
  flags _ _ h := hf ▸ h
  counters := .of_same hc

theorem refl (s : State) : Accrues s s := of_same rfl rfl

theorem trans {s t u : State} (h : Accrues s t) (k : Accrues t u) : Accrues s u where
  mode := k.mode.trans h.mode
  flags hm i hi := k.flags (h.mode.trans hm) i (h.flags hm i hi)
  counters := h.counters.trans k.counters

/-- What reaches neither the Fault Monitor nor the counters may come before. -/
theorem after {s t u : State} (k : Accrues t u) (hf : t.faults = s.faults) (hc : t.counters = s.counters) :
    Accrues s u := (of_same hf hc).trans k

/-- What reaches neither the Fault Monitor nor the counters may follow. -/
theorem before {s t u : State} (k : Accrues s t) (hf : u.faults = t.faults) (hc : u.counters = t.counters) :
    Accrues s u := k.trans (of_same hf hc)

theorem ite {s t u : State} {c : Prop} [Decidable c] (ht : c → Accrues s t) (hu : ¬c → Accrues s u) :
    Accrues s (if c then t else u) := by
  split
  · exact ht ‹_›
  · exact hu ‹_›

end Accrues

theorem accrues_raise {s t : State} (w : BitVec 24) (hf : t.faults = s.faults.raise w) (hc : CountersRise s t) :
    Accrues s t where
  mode := by rw [hf, raise_mode]
  flags _ i hi := by simp [hf, hi]
  counters := hc

theorem accrues_setFlag (s : State) (f : Flag) : Accrues s (s.setFlag f) := accrues_raise _ rfl (.of_same rfl)

theorem accrues_report (before s : State) : Accrues s (report before s) where
  mode := report_faults_mode before s
  flags hm i hi := by simp [report_flags, hm, hi]
  counters := .of_same (report_counters before s)

/-! ### The shared operations -/

theorem accrues_grantPort (s : State) : Accrues s (grantPort s) := by
  unfold grantPort
  refine .ite (fun _ => ?_) fun _ => .refl s
  split
  · exact .refl s
  · refine accrues_raise _ rfl ?_
    simp only [CountersRise, Counters.within, Counters.atLeast, satAdd]
    omega
  · exact .of_same rfl rfl

theorem accrues_portFreed (s : State) : Accrues s (portFreed s) := by
  unfold portFreed
  split
  · exact .of_same rfl rfl
  · exact (accrues_grantPort _).after rfl rfl

theorem accrues_absorbRequest (coincident : Bool) (s : State) : Accrues s (absorbRequest coincident s) := by
  have hcount (t : State) (ht : t.counters = { s.counters with absorbed := satAdd Config.counter32 s.counters.absorbed 1 }) :
      CountersRise s t := by
    simp only [CountersRise, Counters.within, Counters.atLeast, satAdd, ht]
    omega
  cases coincident with
  | true => exact accrues_raise 0 (raise_zero _).symm (hcount _ rfl)
  | false => exact accrues_raise _ rfl (hcount _ rfl)

theorem accrues_applyRequest (r : Request) (start : Nat) (s : State) : Accrues s (applyRequest r start s) := by
  unfold applyRequest
  refine .ite (fun _ => .of_same rfl rfl) fun _ => accrues_raise _ rfl ?_
  simp only [CountersRise, Counters.within, Counters.atLeast, satAdd, setFlag_counters]
  omega

theorem accrues_considerRequests (q : List Request) (s : State) : Accrues s (considerRequests q s) := by
  induction q generalizing s with
  | nil => exact .of_same rfl rfl
  | cons r rest ih =>
    rw [considerRequests_cons]
    split
    · exact .of_same rfl rfl
    · exact (accrues_absorbRequest _ s).trans (ih _)
    · exact (accrues_applyRequest _ _ s).trans (ih _)

theorem accrues_considerHead (s : State) : Accrues s (considerHead s) := accrues_considerRequests _ s

theorem accrues_arriveRequest (r : Request) (s : State) : Accrues s (arriveRequest r s) := by
  unfold arriveRequest
  refine .ite (fun _ => .refl s) fun _ => .ite (fun _ => accrues_absorbRequest false s) fun _ => ?_
  exact .ite (fun _ => (accrues_considerHead _).after rfl rfl) fun _ => .of_same rfl rfl

theorem accrues_segmentRunEnd (s : State) : Accrues s (segmentRunEnd s) := (accrues_considerHead _).after rfl rfl

theorem accrues_stageBlock (b : Block) (s : State) : Accrues s (stageBlock b s) := by
  refine .trans ?_ (accrues_grantPort _)
  refine accrues_raise 0 (raise_zero _).symm ?_
  simp only [CountersRise, Counters.within, Counters.atLeast, satAdd]
  omega

theorem accrues_countDropped (k : Nat) (s : State) : Accrues s (countDropped k s) := by
  refine accrues_raise 0 (raise_zero _).symm ?_
  simp only [CountersRise, Counters.within, Counters.atLeast, satAdd, countDropped]
  omega

theorem accrues_completeBlock (s : State) : Accrues s (completeBlock s) := by
  unfold completeBlock
  refine .trans ?_ (accrues_report _ _)
  split
  · exact (accrues_countDropped _ _).after rfl rfl
  · exact (accrues_countDropped _ _).after rfl rfl
  · exact (accrues_stageBlock _ _).after rfl rfl

/-! ### Runs and the intake -/

theorem accrues_endRun (s : State) : Accrues s (endRun s) := by
  have hblock : Accrues s (if s.intake.point % Config.blockSamples = 0 then s else completeBlock s) :=
    .ite (fun _ => .refl s) fun _ => accrues_completeBlock s
  exact hblock.trans ((accrues_segmentRunEnd _).after rfl rfl)

theorem accrues_takeStop (s : State) : Accrues s (takeStop s) :=
  .ite (fun _ => .of_same rfl rfl) fun _ => accrues_endRun s

theorem accrues_advanceIntake (lanes : Vector Sample 8) (s : State) : Accrues s (advanceIntake lanes s) := by
  refine .trans (.ite (fun _ => ?_) fun _ => ?_) (accrues_considerHead _)
  · exact (accrues_completeBlock _).after rfl rfl
  · exact .of_same rfl rfl

theorem accrues_takeSampleSet (lanes : Vector Sample 8) (s : State) : Accrues s (takeSampleSet lanes s) := by
  have hset := accrues_advanceIntake lanes s
  refine .ite (fun _ => ?_) fun _ => .ite (fun _ => hset.trans (accrues_endRun _)) fun _ => hset
  exact (hset.trans (accrues_endRun _)).before rfl rfl

theorem accrues_takeStart (s : State) : Accrues s (takeStart s) := by
  have hmissed (t : State) (hf : t.faults = s.faults) (hc : t.counters = s.counters) :
      Accrues s (t.setFlag .startMissed) := (accrues_setFlag t _).after hf hc
  unfold takeStart
  split
  · exact .of_same rfl rfl
  · exact .of_same rfl rfl
  · exact .of_same rfl rfl
  · exact hmissed _ rfl rfl
  · exact hmissed _ rfl rfl
  · exact hmissed _ rfl rfl

/-! ### Marker lines -/

theorem accrues_qualifyMarker (line : Fin 4) (now : Nat) (s : State) : Accrues s (qualifyMarker line now s) := by
  rcases qualifyMarker_cases line now s with h | ⟨_, _, noted, s₁, _, _, _, rfl, ⟨_, h⟩ | ⟨_, h⟩⟩ <;> rw [h]
  · exact .refl s
  · exact (accrues_arriveRequest _ _).after (by simp) (by simp)
  · refine accrues_raise _ rfl ?_
    simp only [CountersRise, Counters.within, Counters.atLeast, satAdd, suppressMarker, setFlag_counters, setLine_counters]
    omega

/-! ### Capture memory -/

theorem accrues_completeWrite (s : State) : Accrues s (completeWrite s) := by
  have hstore : Accrues s (storeHead s) := by
    unfold storeHead
    split <;> exact .of_same rfl rfl
  refine .ite (fun _ => accrues_portFreed s) fun _ => .ite (fun _ => ?_) fun _ => .refl s
  exact hstore.trans (accrues_portFreed _)

theorem accrues_countRead (slot : Nat) (x : Slot) (s : State) : Accrues s (countRead slot x s) := by
  have hcount (t : State) (ht : t.counters = { s.counters with
      corrected := satAdd Config.counter32 s.counters.corrected x.corrected
      uncorrectable := satAdd Config.counter32 s.counters.uncorrectable (bit x.uncorrectable) }) : CountersRise s t := by
    simp only [CountersRise, Counters.within, Counters.atLeast, satAdd, ht]
    omega
  refine .ite (fun _ => accrues_raise _ rfl (hcount _ rfl)) fun _ => ?_
  exact accrues_raise 0 (raise_zero _).symm (hcount _ rfl)

theorem accrues_afterRead (w : WorkingCopy) (slot : Nat) (x : Slot) (s : State) : Accrues s (afterRead w slot x s) := by
  have hcount := accrues_countRead slot x s
  refine .ite (fun _ => hcount.trans ?_) fun _ => hcount.trans (.of_same (by simp) (by simp))
  unfold truncateFrame
  refine (accrues_considerHead _).after ?_ ?_ <;> split <;> split <;> simp

theorem accrues_completeRead (corrected : Nat) (uncorrectable : Bool) (s : State) :
    Accrues s (completeRead corrected uncorrectable s) := by
  rcases completeRead_cases corrected uncorrectable s with h | ⟨_, h⟩ | ⟨w, number, x, _, h⟩ <;> rw [h]
  · exact .refl s
  · exact accrues_portFreed s
  · exact (accrues_afterRead _ _ _ s).trans (accrues_portFreed _)

theorem accrues_completeRefresh (s : State) : Accrues s (completeRefresh s) := by
  refine .ite (fun _ => accrues_portFreed s) fun _ => .ite (fun _ => ?_) fun _ => .refl s
  exact (accrues_portFreed _).after rfl rfl

theorem accrues_refreshExpired (s : State) : Accrues s (refreshExpired s) := by
  unfold refreshExpired
  split
  · exact .refl s
  · refine .ite (fun _ => accrues_raise _ rfl ?_) fun _ => (accrues_grantPort _).after rfl rfl
    simp only [CountersRise, Counters.within, Counters.atLeast, satAdd, setFlag_counters]
    omega

/-! ### Frames and settling -/

theorem accrues_takeDueFrame (due : DueFrame) (s : State) : Accrues s (takeDueFrame due s) := by
  cases due with
  | trailer head => exact .of_same (placeTrailer_faults s head) (placeTrailer_counters s head)
  | gap head e => exact (accrues_considerHead _).after (by simp) (by simp)
  | data head last =>
    refine .trans ?_ (accrues_considerHead _)
    exact (accrues_grantPort _).after rfl rfl

/-- Settling only adds to what has accrued. -/
theorem accrues_settling (s : State) : SettlingKeeps (Accrues s) where
  memoryGap _ h := h.before (by simp) (by simp)
  due due t _ h := h.trans (accrues_takeDueFrame due t)
  flush _ h := h.before (by simp) (by simp)

/-! ### The spine -/

theorem accrues_countCheckError (s : State) : Accrues s (countCheckError s) := by
  refine accrues_raise _ rfl ?_
  simp only [CountersRise, Counters.within, Counters.atLeast, satAdd, countCheckError, setFlag_counters]
  omega

theorem accrues_countOrphan (s : State) : Accrues s (countOrphan s) := by
  refine accrues_raise _ rfl ?_
  simp only [CountersRise, Counters.within, Counters.atLeast, satAdd, countOrphan, setFlag_counters]
  omega

theorem accrues_countOverflow (s : State) : Accrues s (countOverflow s) := by
  refine accrues_raise _ rfl ?_
  simp only [CountersRise, Counters.within, Counters.atLeast, satAdd, countOverflow, setFlag_counters]
  omega

theorem accrues_arriveHeader (header : List Byte) (s : State) : Accrues s (arriveHeader header s) := by
  unfold arriveHeader
  split
  · exact (accrues_countCheckError _).after rfl rfl
  · exact .of_same rfl rfl
  · exact .of_same rfl rfl
  · exact (accrues_countOverflow _).after rfl rfl
  · exact .of_same (by simp [acceptUnit]) (by simp [acceptUnit])

theorem accrues_ownNote (header : List Byte) (s : State) : Accrues s (ownNote header s) := by
  unfold ownNote
  refine .ite (fun _ => .of_same rfl rfl) fun _ => .ite (fun _ => .of_same rfl rfl) fun _ => .refl s

theorem accrues_ownUnit (header : List Byte) (s : State) : Accrues s (ownUnit header s) := by
  refine .ite (fun _ => accrues_ownNote header s) fun _ => .ite (fun _ => .ite (fun _ => ?_) fun _ => .refl s) fun _ => .refl s
  refine accrues_raise 0 (raise_zero _).symm ?_
  simp only [CountersRise, Counters.within, Counters.atLeast, satAdd]
  omega

theorem accrues_handOn (header : List Byte) (s : State) : Accrues s (handOn header s) := by
  have hpeer : Accrues s (peerPresence header s) := .ite (fun _ => .refl s) fun _ => .of_same rfl rfl
  have hmarker : Accrues s (peerMarker header s) := .ite (fun _ => accrues_arriveRequest _ s) fun _ => .refl s
  have hingest : Accrues s (ingestNote header s) := .ite (fun _ => .of_same rfl rfl) fun _ => .of_same rfl rfl
  unfold handOn
  exact .ite (fun _ => .refl s) fun _ => .ite (fun _ => .ite (fun _ => accrues_ownNote header s) fun _ => .refl s)
    fun _ => .ite (fun _ => .ite (fun _ => hpeer) fun _ => .refl s)
      fun _ => .ite (fun _ => hmarker) fun _ => .ite (fun _ => hingest) fun _ => .refl s

theorem accrues_endUnit (rest : List Byte) (s : State) : Accrues s (endUnit rest s) := by
  rcases endUnit_cases rest s with ⟨_, h⟩ | ⟨a, s₁, _, hs₁, ⟨_, h⟩ | ⟨_, h⟩⟩ <;> rw [h]
  · exact accrues_countCheckError s
  · exact .of_same (by simp [hs₁]) (by simp [hs₁])
  · have htransit : Accrues s (endTransit a.fate (keptBytes a.header rest) s₁) :=
      hs₁ ▸ .ite (fun _ => .of_same rfl rfl) fun _ => .of_same rfl rfl
    have hcheck (t : State) : Accrues t (if isGood a.header rest then t else countCheckError t) :=
      .ite (fun _ => .refl t) fun _ => accrues_countCheckError t
    refine htransit.trans (.ite (fun _ => (hcheck _).trans (accrues_countOrphan _)) fun _ => ?_)
    refine .ite (fun _ => ?_) fun _ => hcheck _
    refine .before (.ite (fun _ => ?_) fun _ => ?_) (arbitrate_faults _) (arbitrate_counters _)
    · exact (hcheck _).trans (accrues_ownUnit _ _)
    · exact (hcheck _).trans (accrues_handOn _ _)

/-! ### Commands -/

/-- The commands that bring the flags or the fault mode to new values. -/
def setsFlags : Instr → Bool
  | .loadConfig _ _ => true
  | .softReset => true
  | .scsRise => true
  | c => resets c

theorem effect_accrues (c : Instr) (s : State) (hc : setsFlags c = false) : Accrues s (effect c s) := by
  cases c with
  | powerOn straps => exact nomatch hc
  | resetAssert => exact nomatch hc
  | resetRelease straps => exact nomatch hc
  | loadConfig record straps => exact nomatch hc
  | softReset => exact nomatch hc
  | scsRise => exact nomatch hc
  | readFaults =>
    exact .ite (fun _ => { mode := rfl, flags := fun _ _ h => h, counters := .of_same rfl }) fun _ => .refl s
  | setAlertMask mask =>
    exact .ite (fun _ => { mode := rfl, flags := fun _ _ h => h, counters := .of_same rfl }) fun _ => .refl s
  | stopRun =>
    refine .ite (fun _ => .ite (fun _ => (accrues_takeStop s).before rfl rfl) fun _ => .of_same rfl rfl) fun _ => .refl s
  | sampleSetTaken lanes => exact .ite (fun _ => accrues_takeSampleSet lanes s) fun _ => .refl s
  | startEdge => exact accrues_takeStart s
  | stopEdge => exact .ite (fun _ => accrues_takeStop s) fun _ => .refl s
  | markerQualify line now => exact accrues_qualifyMarker line now s
  | boundaryApply => exact accrues_considerHead s
  | blockWriteComplete => exact accrues_completeWrite s
  | blockReadComplete corrected uncorrectable => exact accrues_completeRead corrected uncorrectable s
  | refreshComplete => exact accrues_completeRefresh s
  | refreshExpiry => exact accrues_refreshExpired s
  | trailerPlace => exact (accrues_settling s).takeIfDue _ s (.refl s)
  | gapFramePlace => exact (accrues_settling s).takeIfDue _ s (.refl s)
  | dataFrameStart => exact (accrues_settling s).takeIfDue _ s (.refl s)
  | unitHeaderArrival header sent =>
    refine .ite (fun _ => .refl s) fun _ => (accrues_arriveHeader _ _).after ?_ ?_
    · exact noteSent_sameBut sent s .faults (by simp)
    · exact noteSent_sameBut sent s .counters (by simp)
  | unitEnd rest => exact accrues_endUnit rest s
  | _ => exact .of_same (effect_sameBut _ s .faults (by simp [reach])) (effect_sameBut _ s .counters (by simp [reach]))

theorem countersRise_acceptConfiguration (c : Configuration) (s : State) :
    CountersRise s (acceptConfiguration c s) := by
  refine .trans ?_ (.of_same (arbitrate_counters _))
  refine .trans ?_ (accrues_grantPort _).counters
  exact .of_same rfl

theorem countersRise_loadConfiguration (record : List Byte) (straps : BitVec 4) (s : State) :
    CountersRise s (loadConfiguration record straps s) := by
  unfold loadConfiguration
  split
  · split
    · exact .trans (.of_same rfl) (countersRise_acceptConfiguration (configurationOf record) (sampleStraps straps s))
    · exact .of_same rfl
  · exact .of_same rfl

theorem effect_countersRise (c : Instr) (s : State) (hc : resets c = false) : CountersRise s (effect c s) := by
  cases c with
  | loadConfig record straps =>
    simp only [effect, onArguments]
    split
    · exact countersRise_loadConfiguration record.toList straps s
    · exact .of_same rfl
  | softReset => exact .of_same (effect_sameBut .softReset s .counters (by simp [reach]))
  | scsRise => exact .of_same rfl
  | powerOn straps => exact nomatch hc
  | resetAssert => exact nomatch hc
  | resetRelease straps => exact nomatch hc
  | _ => exact (effect_accrues _ s rfl).counters

theorem settled_countersRise (c : Instr) (s : State) (hc : resets c = false) : CountersRise s (settled c s) := by
  have hsettle (t : State) : CountersRise t (settleFrom s t) := ((accrues_settling t).settleFrom s t (.refl t)).counters
  unfold settled
  split
  · exact (effect_countersRise c s hc).trans (hsettle _)
  · exact effect_countersRise c s hc

theorem nextOf_countersRise (c : Instr) (s : State) (hc : resets c = false) : CountersRise s (nextOf c s) := by
  have hheld : CountersRise s (heldEffect c s) := by cases c <;> exact .of_same rfl
  unfold nextOf
  rw [hc]
  refine if h : s.resetHeld = true then ?_ else ?_
  · simpa [h] using hheld
  · simpa [h] using (settled_countersRise c s hc).trans (.of_same (report_counters s _))

/-- Settles O54: what every part of a step makes of the counters, but the commands that start afresh. -/
theorem countersOnlyRise : Obligations.CountersOnlyRise := by
  intro c s t hs hpower hassert hrelease h
  have hc : resets c = false := by
    cases c with
    | powerOn straps => exact absurd rfl (hpower straps)
    | resetAssert => exact absurd rfl hassert
    | resetRelease straps => exact absurd rfl (hrelease straps)
    | _ => rfl
  rw [eq_nextOf_of_exec h]
  exact (nextOf_countersRise c s hc hs).2

/-! ### The flags of the conditions -/

/-- After a report the flags follow the conditions: in LATCHED mode where none that stood on has lost its flag. -/
theorem report_flagsFollow {before after : State}
    (h : after.faults.mode = .latched → ∀ i, before.conditions.getLsbD i = true → after.conditions.getLsbD i = true →
      after.faults.flags.getLsbD i = true) : (report before after).flagsFollow := by
  have hcondition := (and_not_eq_zero_iff _ _).1 (conditions_are_condition_flags after)
  rw [State.flagsFollow, report_conditions, report_faults_mode, report_flags, and_not_eq_zero_iff]
  cases hm : after.faults.mode with
  | latched =>
    refine ⟨fun i hi => ?_, fun hlive => nomatch hlive⟩
    cases hb : before.conditions.getLsbD i with
    | true => simp [h hm i hb hi]
    | false =>
      simp only [begun, BitVec.getLsbD_or, BitVec.getLsbD_and, BitVec.getLsbD_not, hi, hb, BitVec.lt_of_getLsbD hi]
      simp
  | live =>
    refine ⟨fun i hi => by simp [hi], fun _ => BitVec.eq_of_getLsbD_eq fun i hi => ?_⟩
    cases hx : after.conditions.getLsbD i with
    | true => simp [hx, hcondition i hx]
    | false =>
      simp only [BitVec.getLsbD_or, BitVec.getLsbD_and, BitVec.getLsbD_not, hx, hi]
      simp

theorem report_flagsFollow_of_accrues {s t : State} (h : s.flagsFollow) (k : Accrues s t) :
    (report s t).flagsFollow :=
  report_flagsFollow fun hm i hi _ => k.flags (k.mode ▸ hm) i (flag_of_condition h hi)

theorem settled_accrues (c : Instr) (s : State) (hc : setsFlags c = false) : Accrues s (settled c s) := by
  unfold settled
  split
  · exact (accrues_settling s).settleFrom s _ (effect_accrues c s hc)
  · exact effect_accrues c s hc

theorem acceptConfiguration_flags (c : Configuration) (s : State) {i : Nat} (hi : s.faults.flags.getLsbD i = true) :
    (acceptConfiguration c s).faults.flags.getLsbD i = true := by
  have hgrant (t : State) (ht : t.faults.flags = s.faults.flags) : (grantPort t).faults.flags.getLsbD i = true := by
    unfold grantPort
    repeat' split
    all_goals simp [ht, hi]
  rw [acceptConfiguration, arbitrate_faults]
  exact hgrant _ rfl

theorem loadConfiguration_flags (record : List Byte) (straps : BitVec 4) (s : State) {i : Nat}
    (hi : s.faults.flags.getLsbD i = true) : (loadConfiguration record straps s).faults.flags.getLsbD i = true := by
  unfold loadConfiguration
  split
  · split
    · exact acceptConfiguration_flags _ (sampleStraps straps s) hi
    · simp [hi]
  · simp [hi]

/-- The three commands that bring the flags or the mode to new values take no flag from a condition that stands. -/
theorem effect_keeps_standing_flags (c : Instr) (s : State) (hc : resets c = false) (hset : setsFlags c = true) {i : Nat}
    (hcondition : s.conditions.getLsbD i = true) (hi : s.faults.flags.getLsbD i = true) :
    (effect c s).faults.flags.getLsbD i = true := by
  cases c with
  | loadConfig record straps =>
    simp only [effect, onArguments]
    split
    · exact loadConfiguration_flags _ _ s hi
    · exact hi
  | softReset =>
    simp only [effect, onCommand]
    split <;> exact hi
  | scsRise =>
    simp only [effect, endTransaction]
    split <;> simp only [State.clearable, BitVec.getLsbD_and, BitVec.getLsbD_not, hi, hcondition, BitVec.lt_of_getLsbD hi] <;>
      simp [BitVec.lt_of_getLsbD hi]
  | powerOn straps => exact nomatch hc
  | resetAssert => exact nomatch hc
  | resetRelease straps => exact nomatch hc
  | _ => exact nomatch hset

/-- Nothing is judged at the event of a command that brings the flags or the mode to new values. -/
theorem settled_of_setsFlags {c : Instr} (hc : resets c = false) (hset : setsFlags c = true) (s : State) :
    settled c s = effect c s := by
  cases c with
  | loadConfig record straps => rfl
  | softReset => rfl
  | scsRise => rfl
  | powerOn straps => exact nomatch hc
  | resetAssert => exact nomatch hc
  | resetRelease straps => exact nomatch hc
  | _ => exact nomatch hset

theorem nextOf_flagsFollow {c : Instr} {s : State} (hc : resets c = false) (hr : s.resetHeld = false)
    (h : s.flagsFollow) : (nextOf c s).flagsFollow := by
  rw [nextOf_free hc hr]
  cases hset : setsFlags c with
  | false => exact report_flagsFollow_of_accrues h (settled_accrues c s hset)
  | true =>
    refine report_flagsFollow fun _ i hi _ => ?_
    have hsettled : settled c s = effect c s := settled_of_setsFlags hc hset s
    rw [hsettled]
    exact effect_keeps_standing_flags c s hc hset hi (flag_of_condition h hi)

theorem conditions_absent {s : State} (hexhausted : s.intake.exhausted = false) (hgaps : s.gaps = {})
    (hthermal : s.memory.thermal = .normal) (hconfig : s.station.config = none) (hhold : s.spine.hold = {})
    (hpeers : ∀ e ∈ s.presence.peers, e.phase = .absent) : s.conditions = 0 := by
  have hlane : s.laneFault = false := by simp [State.laneFault, State.channels, hconfig]
  have hstale : s.somePeer .stale = false := by simp +contextual [State.somePeer, hpeers]
  have hmismatched : s.somePeer .mismatched = false := by simp +contextual [State.somePeer, hpeers]
  simp [State.conditions, Flag.mask, hexhausted, hgaps, hthermal, hhold, hlane, hstale, hmismatched]

theorem mem_mapNth {α : Type} {f : α → α} {y : α} : ∀ {n : Nat} {l : List α}, y ∈ mapNth f n l → y ∈ l ∨ ∃ x ∈ l, y = f x
  | n, [], h => by cases n <;> exact .inl h
  | 0, x :: rest, h => by
    rcases List.mem_cons.1 h with h | h
    · exact .inr ⟨x, List.mem_cons_self, h⟩
    · exact .inl (List.mem_cons_of_mem _ h)
  | n + 1, x :: rest, h => by
    rcases List.mem_cons.1 h with h | h
    · exact .inl (h ▸ List.mem_cons_self)
    · rcases mem_mapNth h with h | ⟨z, hz, h⟩
      · exact .inl (List.mem_cons_of_mem _ h)
      · exact .inr ⟨z, List.mem_cons_of_mem _ hz, h⟩

theorem peersSampled_reset_absent (straps : BitVec 4) :
    ∀ e ∈ peersSampled straps State.reset.presence.peers, e.phase = .absent := by
  have hreset : ∀ e ∈ State.reset.presence.peers, e.phase = .absent := by decide
  intro e he
  unfold peersSampled at he
  split at he
  · rcases mem_mapNth he with he | ⟨_, _, rfl⟩
    · exact hreset e he
    · rfl
  · exact hreset e he

theorem flagsFollow_of_no_condition {s : State} (h : s.conditions = 0) (hm : s.faults.mode = .latched) :
    s.flagsFollow := by
  simp [State.flagsFollow, h, hm]

theorem resets_flagsFollow (c : Instr) (s : State) (hc : resets c = true) : (effect c s).flagsFollow := by
  have hpower (straps : BitVec 4) : (sampleStraps straps (freshStation s)).flagsFollow :=
    flagsFollow_of_no_condition (conditions_absent rfl rfl rfl rfl rfl (peersSampled_reset_absent straps)) rfl
  cases c with
  | powerOn straps => exact hpower straps
  | resetRelease straps => exact hpower straps
  | resetAssert =>
    have hreset : ∀ e ∈ State.reset.presence.peers, e.phase = .absent := by decide
    exact flagsFollow_of_no_condition (conditions_absent rfl rfl rfl rfl rfl hreset) rfl
  | _ => exact nomatch hc

/-- With no configuration no lane is enabled, so the pins bring no condition (R2). -/
theorem heldEffect_flagsFollow (c : Instr) {s : State} (hconfig : s.station.config = none) (h : s.flagsFollow) :
    (heldEffect c s).flagsFollow := by
  cases c with
  | laneAlignmentChange lane out =>
    have hlane : (setLane lane out s).laneFault = s.laneFault := by simp [State.laneFault, State.channels, hconfig]
    have hconditions : (setLane lane out s).conditions = s.conditions := by
      simp only [State.conditions, hlane]
      rfl
    exact flagsFollow_of_same hconditions rfl h
  | _ => exact h

theorem config_none_of_held {s : State} (h : s.phasesAgree) (hr : s.resetHeld = true) : s.station.config = none := by
  obtain ⟨-, -, -, hconfig, -, -, hheld⟩ := h
  have hnone := mt hconfig.1 (not_not.2 (hheld hr))
  simpa using hnone

/-- Settles O60: a report makes the flags follow, where no part of a step takes the flag of a condition that stands. -/
theorem flagsFollowKept : Obligations.FlagsFollowKept := by
  have hnext (c : Instr) (s : State) (hphases : s.phasesAgree) (h : s.flagsFollow) : (nextOf c s).flagsFollow := by
    cases hc : resets c with
    | true =>
      rw [nextOf, if_pos hc]
      exact resets_flagsFollow c s hc
    | false =>
      cases hr : s.resetHeld with
      | false => exact nextOf_flagsFollow hc hr h
      | true =>
        have hheld : nextOf c s = heldEffect c s := by simp [nextOf, hc, hr]
        exact hheld ▸ heldEffect_flagsFollow c (config_none_of_held hphases hr) h
  intro s t hphases h hstep
  unfold step at hstep
  split at hstep
  · exact Host.Outcome.next.inj hstep ▸ h
  · exact eq_nextOf_of_exec hstep ▸ hnext _ _ hphases h

end Sys2Proof.Machine
end

section
/-! PROOFS. The marker lines in every step (R54 to R58, R60, R61, R64): what the events of a line make of it keeps it
sound, and nothing else reaches a line but the run's start and end, a rearming, a configuration and the resets. -/

namespace Sys2Proof.Machine

/-! ### The four lines -/

@[simp] theorem PerLine.get_set_same {α : Type} (p : PerLine α) (line : Fin 4) (x : α) : (p.set line x).get line = x := by
  match line with
  | 0 => rfl
  | 1 => rfl
  | 2 => rfl
  | 3 => rfl

theorem PerLine.get_set_other {α : Type} (p : PerLine α) {line other : Fin 4} (h : other ≠ line) (x : α) :
    (p.set line x).get other = p.get other := by
  match line, other with
  | 0, 1 | 0, 2 | 0, 3 | 1, 0 | 1, 2 | 1, 3 | 2, 0 | 2, 1 | 2, 3 | 3, 0 | 3, 1 | 3, 2 => rfl
  | 0, 0 | 1, 1 | 2, 2 | 3, 3 => exact absurd rfl h

/-- What holds of the changed line and of the others holds of all lines. -/
theorem PerLine.forall_get_set {α : Type} (P : α → Prop) {p : PerLine α} {line : Fin 4} {x : α} (hx : P x)
    (hp : ∀ other, P (p.get other)) (other : Fin 4) : P ((p.set line x).get other) := by
  by_cases h : other = line
  · rw [h, PerLine.get_set_same]
    exact hx
  · rw [PerLine.get_set_other p h]
    exact hp other

@[simp] theorem linesRunEnd_get (lines : PerLine MarkerLine) (line : Fin 4) :
    (linesRunEnd lines).get line = { phase := .off, latch := (lines.get line).latch } := by
  match line with
  | 0 => rfl
  | 1 => rfl
  | 2 => rfl
  | 3 => rfl

@[simp] theorem PerLine.get_all {α : Type} (x : α) (line : Fin 4) : (PerLine.mk x x x x).get line = x := by
  match line with
  | 0 => rfl
  | 1 => rfl
  | 2 => rfl
  | 3 => rfl

/-! ### The events of a line -/

/-- What an event of a line may make of a sound line is sound again (R54). -/
def KeepsSound (next : LineSetup → MarkerLine → Option MarkerLine) : Prop :=
  ∀ setup l l', l.sound = true → next setup l = some l' → l'.sound = true

theorem edgeSeen_keepsSound (noted : Nat) : KeepsSound (edgeSeen noted) := by
  intro setup l l' hl h
  unfold edgeSeen at h
  split at h <;> simp_all [MarkerLine.sound] <;> subst h <;> simp_all

theorem inactiveSeen_keepsSound : KeepsSound inactiveSeen := by
  intro setup l l' hl h
  unfold inactiveSeen at h
  split at h <;> simp_all [MarkerLine.sound] <;> subst h <;> simp_all

theorem activeSeen_keepsSound : KeepsSound fun _ => activeSeen := by
  intro setup l l' hl h
  simp only [activeSeen] at h
  split at h <;> simp_all [MarkerLine.sound]
  subst h
  simp_all

theorem recoveryEnded_keepsSound : KeepsSound fun _ => recoveryEnded := by
  intro setup l l' hl h
  simp only [recoveryEnded] at h
  split at h <;> simp_all [MarkerLine.sound]
  subst h
  rfl

theorem rearmed_sound (running : Bool) {l : MarkerLine} (h : l.sound = true) : (l.rearmed running).sound = true := by
  cases hlatch : l.latch with
  | false => rwa [MarkerLine.rearmed_of_clear (by simp [hlatch])]
  | true => cases running <;> simp [MarkerLine.rearmed, hlatch, MarkerLine.sound]

/-! ### The watched line -/

theorem watchedLine_eq_some {s : State} {line : Fin 4} {setup : LineSetup} {l : MarkerLine}
    (h : s.watchedLine line = some (setup, l)) :
    s.station.phase = .run ∧ s.enabledSetup line = some setup ∧ l = s.markers.lines.get line := by
  unfold State.watchedLine at h
  split at h
  · next hrun =>
    obtain ⟨setup', hsetup, heq⟩ := Option.map_eq_some_iff.1 h
    obtain ⟨rfl, rfl⟩ := Prod.mk.inj heq
    exact ⟨hrun, hsetup, rfl⟩
  · exact nomatch h

/-- What an event of a line comes to: nothing, or a new value of a watched line (R53, R54). -/
theorem onLine_cases (line : Fin 4) (next : LineSetup → MarkerLine → Option MarkerLine) (s : State) :
    onLine line next s = s ∨
    ∃ setup l', s.station.phase = .run ∧ next setup (s.markers.lines.get line) = some l' ∧
      onLine line next s = setLine line l' s := by
  unfold onLine
  split
  · exact .inl rfl
  · next setup l hl =>
    obtain ⟨hrun, -, rfl⟩ := watchedLine_eq_some hl
    split
    · exact .inl rfl
    · next l' hl' => exact .inr ⟨setup, l', hrun, hl', rfl⟩

/-! ### The invariant -/

theorem markersSound_of_same {s t : State} (hm : t.markers = s.markers)
    (hphase : t.station.phase ≠ .run → s.station.phase ≠ .run) (h : s.markersSound) : t.markersSound := by
  obtain ⟨hlines, hseq, hoff⟩ := h
  rw [State.markersSound, hm]
  exact ⟨hlines, hseq, fun hp => hoff (hphase hp)⟩

theorem markersSound_setLine {s : State} {line : Fin 4} {l : MarkerLine} (hrun : s.station.phase = .run)
    (hl : l.sound = true) (h : s.markersSound) : (setLine line l s).markersSound :=
  ⟨PerLine.forall_get_set (fun x : MarkerLine => x.sound = true) hl h.1, h.2.1, fun hp => absurd hrun hp⟩

theorem markersSound_onLine (line : Fin 4) {next : LineSetup → MarkerLine → Option MarkerLine} (hnext : KeepsSound next)
    {s : State} (h : s.markersSound) : (onLine line next s).markersSound := by
  rcases onLine_cases line next s with heq | ⟨setup, l', hrun, hl', heq⟩ <;> rw [heq]
  · exact h
  · exact markersSound_setLine hrun (hnext _ _ _ (h.1 line) hl') h

theorem nextMarkerSeq_ne_zero (seq : BitVec 16) : nextMarkerSeq seq ≠ 0 := by
  unfold nextMarkerSeq
  split
  · decide
  · next h => bv_omega

theorem markersSound_qualifyMarker (line : Fin 4) (now : Nat) {s : State} (h : s.markersSound) :
    (qualifyMarker line now s).markersSound := by
  rcases qualifyMarker_cases line now s with heq | ⟨setup, l, noted, s₁, hl, -, -, rfl, ⟨-, heq⟩ | ⟨-, heq⟩⟩ <;> rw [heq]
  · exact h
  · have hset := markersSound_setLine (line := line) (l := { phase := .latched, latch := true })
      (watchedLine_eq_some hl).1 rfl h
    obtain ⟨hlines, -, hoff⟩ := hset
    rw [acceptMarker, State.markersSound, arriveRequest_markers, joinNote_markers, arriveRequest_station, joinNote_station]
    exact ⟨hlines, nextMarkerSeq_ne_zero _, hoff⟩
  · exact markersSound_of_same (suppressMarker_markers _) id
      (markersSound_setLine (watchedLine_eq_some hl).1 rfl h)

theorem markersSound_endRun {s : State} (h : s.markersSound) : (endRun s).markersSound := by
  rw [State.markersSound, endRun_markers]
  refine ⟨fun line => ?_, h.2.1, fun _ line => ?_⟩ <;> simp [MarkerLine.sound]

theorem markersSound_takeStop {s : State} (h : s.markersSound) : (takeStop s).markersSound := by
  unfold takeStop
  split
  · exact h
  · exact markersSound_endRun h

theorem markersSound_takeSampleSet (lanes : Vector Sample 8) {s : State} (h : s.markersSound) :
    (takeSampleSet lanes s).markersSound := by
  have hset : (advanceIntake lanes s).markersSound := markersSound_of_same (by simp) (by simp) h
  unfold takeSampleSet
  simp only
  split
  · exact markersSound_endRun hset
  · split
    · exact markersSound_endRun hset
    · exact hset

theorem markersSound_beginRun (s : State) : (beginRun s).markersSound := by
  refine ⟨fun line => ?_, (by decide : (1 : BitVec 16) ≠ 0), fun hp => absurd rfl hp⟩
  simp only [beginRun, armedLines, PerLine.get_tabulate]
  split <;> rfl

theorem markersSound_takeStart {s : State} (h : s.markersSound) : (takeStart s).markersSound := by
  unfold takeStart
  split
  · exact markersSound_beginRun _
  · exact markersSound_beginRun _
  · exact markersSound_beginRun _
  · exact h
  · exact h
  · exact h

theorem markersSound_rearmNamed (mask : Byte) {s : State} (h : s.markersSound) : (rearmNamed mask s).markersSound := by
  obtain ⟨hlines, hseq, hoff⟩ := h
  refine ⟨fun line => ?_, hseq, fun hp line => ?_⟩
  · rw [rearmNamed_lines_get]
    unfold rearmLine
    split
    · exact rearmed_sound _ (hlines line)
    · exact hlines line
  · rw [rearmNamed_lines_get, rearmLine_eq]
    split
    · exact if_neg hp
    · exact hoff hp line

theorem markersSound_loadConfiguration (record : List Byte) (straps : BitVec 4) {s : State} (h : s.markersSound) :
    (loadConfiguration record straps s).markersSound := by
  unfold loadConfiguration
  split
  · split
    · rw [State.markersSound]
      simp only [acceptConfiguration, answer_markers, answer_station, arbitrate_markers, arbitrate_station,
        grantPort_markers, grantPort_station, PerLine.get_all]
      exact ⟨fun _ => rfl, h.2.1, fun _ _ => trivial⟩
    · exact h
  · exact h

theorem markersSound_lines_off {s : State} (hm : s.markers = {}) : s.markersSound := by
  simp [State.markersSound, hm, MarkerLine.sound]

theorem markersSound_settling : SettlingKeeps State.markersSound where
  memoryGap s h := markersSound_of_same (by simp) (by simp) h
  due due s _ h := markersSound_of_same (by simp) (by simp) h
  flush s h := by
    refine markersSound_of_same (by simp) (fun hp hrun => hp ?_) h
    rw [completeFlush_phase s (by simp [hrun])]
    exact hrun

theorem markersSound_effect (c : Instr) (s : State) (hc : resets c = false) (h : s.markersSound) :
    (effect c s).markersSound := by
  have hite {p : Prop} [Decidable p] {t : State} (ht : t.markersSound) : (if p then t else s).markersSound := by
    split <;> assumption
  have hsame := effect_sameBut c s
  cases c with
  | powerOn straps => exact nomatch hc
  | resetAssert => exact nomatch hc
  | resetRelease straps => exact nomatch hc
  | loadConfig record straps => exact hite (markersSound_loadConfiguration _ straps h)
  | rearmMarkers mask => exact hite (markersSound_rearmNamed mask h)
  | stopRun =>
    refine hite ?_
    split
    · exact markersSound_takeStop h
    · exact h
  | softReset => exact hite (markersSound_lines_off rfl)
  | sampleSetTaken lanes => exact hite (markersSound_takeSampleSet lanes h)
  | startEdge => exact markersSound_takeStart h
  | stopEdge => exact hite (markersSound_takeStop h)
  | markerEdge line => exact markersSound_onLine line (edgeSeen_keepsSound _) h
  | markerInactiveLevel line => exact markersSound_onLine line inactiveSeen_keepsSound h
  | markerActiveInRecovery line => exact markersSound_onLine line activeSeen_keepsSound h
  | markerQualify line now => exact markersSound_qualifyMarker line now h
  | markerRecoveryEnd line => exact markersSound_onLine line recoveryEnded_keepsSound h
  | markerWindowLeave now => exact h
  | unitEnd rest =>
    exact markersSound_of_same (endUnit_sameBut rest s .markers (by simp))
      (mt (endUnit_staysOrJoins rest s).phase_run.2) h
  | flushComplete => exact markersSound_settling.flush s h
  | _ =>
    have hstation := hsame .station (by simp [reach])
    exact markersSound_of_same (hsame .markers (by simp [reach])) (by rw [hstation]; exact id) h

/-- Settles O59: no part of a step leaves a line unsound, a marker sequence 0, or a line in another state than OFF outside
RUN. -/
theorem markersSoundKept : Obligations.MarkersSoundKept := by
  have hkeeps : StepKeeps State.markersSound :=
    { markersSound_settling with
      queue := fun _ _ h => h
      fresh := fun _ _ => markersSound_lines_off rfl
      held := fun _ => markersSound_lines_off rfl
      lane := fun _ _ _ h => h
      report := fun before s h => markersSound_of_same (report_markers before s) (by simp) h
      effect := fun c s hc _ h => markersSound_effect c s hc h }
  exact fun _ _ hs h => hkeeps.step hs h

end Sys2Proof.Machine
end

section
/-! PROOFS. The transit buffer in every step (R127, R130 to R132): what the byte counts, a header's arrival, a unit's end and
a forwarding's end make of it, and that its occupancy never exceeds what its units can still need. -/

namespace Sys2Proof.Machine

/-! ### What the units need -/

theorem transitNeed_append (l m : List TransitUnit) : transitNeed (l ++ m) = transitNeed l + transitNeed m := by
  induction l with
  | nil => simp [transitNeed]
  | cons u rest ih => simp only [List.cons_append, transitNeed, ih]; omega

theorem occupancy_le_transitNeed {l : List TransitUnit} (h : ∀ u ∈ l, u.received ≤ u.length) :
    occupancy l ≤ transitNeed l := by
  induction l with
  | nil => exact Nat.le_refl _
  | cons u rest ih =>
    have hu := h u List.mem_cons_self
    have hrest := ih fun v hv => h v (List.mem_cons_of_mem u hv)
    simp only [occupancy, transitNeed]
    omega

theorem occupancy_eq_transitNeed {l : List TransitUnit} (h : ∀ u ∈ l, u.received = u.length) :
    occupancy l = transitNeed l := by
  induction l with
  | nil => rfl
  | cons u rest ih =>
    rw [occupancy, transitNeed, h u List.mem_cons_self, ih fun v hv => h v (List.mem_cons_of_mem u hv)]

/-! ### The buffer with its input -/

theorem transitWithin_of_same {s t : State} (ht : t.spine.transit = s.spine.transit) (hi : t.spine.input = s.spine.input)
    (h : s.transitWithin) : t.transitWithin := by
  rw [State.transitWithin, ht, hi]
  exact h

/-- While no accepted unit stands on the input every transit unit has ended. -/
theorem all_ended_of_no_accepted {s : State} (h : s.transitWithin) (hi : ∀ a ∈ s.spine.input, a.fate ≠ .accepted) :
    ∀ u ∈ s.spine.transit, u.ended = true := by
  intro u hu
  by_contra hended
  obtain ⟨a, ha, hfate, -⟩ := h.2.2.2 u hu (by simpa using hended)
  exact hi a ha hfate

/-- With every unit ended the input may become anything. -/
theorem transitWithin_of_all_ended {s : State} (hneed : transitNeed s.spine.transit ≤ Config.transitBytes)
    (hfits : ∀ u ∈ s.spine.transit, u.fits) (hended : ∀ u ∈ s.spine.transit, u.ended = true) : s.transitWithin :=
  ⟨hneed, hfits, fun u hu => hended u (List.dropLast_subset _ hu), fun u hu hopen => by simp [hended u hu] at hopen⟩

/-! ### Byte counts -/

/-- Bytes sent of the oldest unit take nothing from what holds of the buffer. -/
theorem transitWithin_noteSent (sent : Nat) {s : State} (h : s.transitWithin) : (noteSent sent s).transitWithin := by
  obtain ⟨hneed, hfits, hended, hinput⟩ := h
  unfold noteSent
  split
  · cases htransit : s.spine.transit with
    | nil => simp [State.transitWithin, mapHead, transitNeed]
    | cons u rest =>
      rw [htransit] at hneed hfits hended hinput
      simp only [transitNeed, Config.transitBytes] at hneed
      simp only [State.transitWithin, mapHead, transitNeed, Config.transitBytes]
      refine ⟨by omega, ?_, ?_, ?_⟩
      · simpa using hfits
      · cases rest with
        | nil => simp
        | cons v more => simpa using hended
      · simpa using hinput
  · exact ⟨hneed, hfits, hended, hinput⟩

/-- What changes the newest unit alone: it needs no more than before, fits, and still ends as it did. -/
theorem transitWithin_mapLast {s t : State} {f : TransitUnit → TransitUnit} (hi : t.spine.input = s.spine.input)
    (ht : t.spine.transit = mapLast f s.spine.transit)
    (hneed : ∀ u ∈ s.spine.transit, u.fits → (f u).length - (f u).sent ≤ u.length - u.sent)
    (hfits : ∀ u ∈ s.spine.transit, u.fits → (f u).fits)
    (hopen : ∀ u ∈ s.spine.transit, (f u).ended = false → u.ended = false ∧ (f u).length = u.length)
    (h : s.transitWithin) : t.transitWithin := by
  obtain ⟨hwithin, hall, hended, hinput⟩ := h
  rw [State.transitWithin, ht, hi]
  rcases List.eq_nil_or_concat' s.spine.transit with hnil | ⟨before, u, hsnoc⟩
  · simp [hnil, mapLast, transitNeed]
  · rw [hsnoc] at hwithin hall hended hinput hneed hfits hopen
    rw [hsnoc, mapLast_snoc]
    have hmem : u ∈ before ++ [u] := by simp
    have hlast := hneed u hmem (hall u hmem)
    simp only [transitNeed_append, transitNeed, Config.transitBytes] at hwithin ⊢
    refine ⟨by omega, fun v hv => ?_, fun v hv => ?_, fun v hv hv' => ?_⟩
    · rcases List.mem_append.1 hv with hv | hv
      · exact hall v (List.mem_append_left _ hv)
      · rw [List.mem_singleton.1 hv]
        exact hfits u hmem (hall u hmem)
    · exact hended v (by simpa using hv)
    · rcases List.mem_append.1 hv with hv | hv
      · exact hinput v (List.mem_append_left _ hv) hv'
      · rw [List.mem_singleton.1 hv] at hv' ⊢
        obtain ⟨hu, hlength⟩ := hopen u hmem hv'
        rw [hlength]
        exact hinput u hmem hu

theorem arrived_fits (bytes : List Byte) {u : TransitUnit} (h : u.fits) : (u.arrived bytes).fits := by
  unfold TransitUnit.arrived
  split
  · exact h
  · next hopen =>
    refine ⟨?_, fun hended => absurd hended hopen⟩
    have := h.1
    simp only
    omega

theorem transitWithin_noteReceived (bytes : List Byte) {s : State} (h : s.transitWithin) :
    (noteReceived bytes s).transitWithin := by
  refine transitWithin_mapLast (s := s) (f := TransitUnit.arrived bytes) rfl rfl (fun u _ _ => ?_)
    (fun u _ hu => arrived_fits bytes hu) (fun u _ hu => ?_) h
  · unfold TransitUnit.arrived
    split <;> exact Nat.le_refl _
  · unfold TransitUnit.arrived at hu ⊢
    split at hu
    · next hended => simp [hended] at hu
    · next hopen => simp [hopen]

/-! ### Header arrival -/

theorem not_accepted_of_not_awaited {s : State} (h : s.awaitingEnd = false) :
    ∀ a ∈ s.spine.input, a.fate ≠ .accepted := by
  intro a ha hfate
  rw [State.awaitingEnd, Option.mem_def.1 ha] at h
  simp [hfate] at h

@[simp] theorem noteSent_input (sent : Nat) (s : State) : (noteSent sent s).spine.input = s.spine.input := by
  unfold noteSent
  split <;> rfl

theorem transitWithin_setInput (header : List Byte) (fate : ArrivalFate) {s : State}
    (hinput : ∀ a ∈ s.spine.input, a.fate ≠ .accepted) (h : s.transitWithin) : (setInput header fate s).transitWithin :=
  transitWithin_of_all_ended (s := setInput header fate s) h.1 h.2.1 (all_ended_of_no_accepted (s := s) h hinput)

/-- An accepted unit finds room for all of it: what waits has ended, so its occupancy is what it needs (R130). -/
theorem transitWithin_acceptUnit (header : List Byte) {s : State}
    (hinput : ∀ a ∈ s.spine.input, a.fate ≠ .accepted) (h : s.transitWithin)
    (hroom : occupancy s.spine.transit + unitLengthOf header ≤ Config.transitBytes) :
    (acceptUnit header (setInput header .accepted s)).transitWithin := by
  have hended := all_ended_of_no_accepted h hinput
  obtain ⟨-, hfits, -, -⟩ := h
  rw [occupancy_eq_transitNeed fun u hu => (hfits u hu).2 (hended u hu)] at hroom
  have htransit : (acceptUnit header (setInput header .accepted s)).spine.transit =
      s.spine.transit ++ [{ header := header, length := unitLengthOf header, received := Config.headerBytes }] := by
    rw [acceptUnit, arbitrate_spine_transit]
    rfl
  have hin : (acceptUnit header (setInput header .accepted s)).spine.input =
      some { header := header, fate := .accepted } := by
    rw [acceptUnit, arbitrate_spine_input]
    rfl
  have hlength : Config.headerBytes ≤ unitLengthOf header := by simp only [unitLengthOf, Config.headerBytes]; omega
  rw [State.transitWithin, htransit, hin, transitNeed_append]
  refine ⟨by simpa [transitNeed] using hroom, ?_, ?_, ?_⟩
  · simpa [or_imp, forall_and, hlength] using fun u hu => hfits u hu
  · simpa using hended
  · simp +contextual [or_imp, hended]

theorem transitWithin_arriveHeader (header : List Byte) {s : State}
    (hinput : ∀ a ∈ s.spine.input, a.fate ≠ .accepted) (h : s.transitWithin) : (arriveHeader header s).transitWithin := by
  unfold arriveHeader
  split
  · exact transitWithin_setInput header .discarded hinput h
  · exact transitWithin_setInput header .strippedOwn hinput h
  · exact transitWithin_setInput header .strippedOrphan hinput h
  · exact transitWithin_setInput header .discarded hinput h
  · next hjudge =>
    refine transitWithin_acceptUnit header hinput h ?_
    unfold State.judgeArrival at hjudge
    repeat' split at hjudge
    all_goals simp_all

/-! ### The end of a unit -/

/-- A unit ends at the input no longer than declared. -/
theorem keptBytes_length (header rest : List Byte) : Config.headerBytes + (keptBytes header rest).length ≤ unitLengthOf header := by
  simp only [keptBytes, List.length_take, unitLengthOf, Config.headerBytes]
  omega

theorem endedWith_ended (body : List Byte) (u : TransitUnit) : (u.endedWith body).ended = true := by
  unfold TransitUnit.endedWith
  split
  · assumption
  · rfl

theorem endedWith_fits (body : List Byte) {u : TransitUnit} (h : u.fits) : (u.endedWith body).fits := by
  unfold TransitUnit.endedWith
  split
  · exact h
  · exact ⟨Nat.le_refl _, fun _ => rfl⟩

theorem ended_mapLast {f : TransitUnit → TransitUnit} {l : List TransitUnit} (hf : ∀ u, (f u).ended = true)
    (h : ∀ u ∈ l.dropLast, u.ended = true) : ∀ u ∈ mapLast f l, u.ended = true := by
  rcases List.eq_nil_or_concat' l with rfl | ⟨before, u, rfl⟩
  · simp [mapLast]
  · rw [mapLast_snoc]
    simpa [or_imp, forall_and, hf] using h

theorem transitWithin_endTransit {s : State} {a : Arrival} (rest : List Byte) (ha : s.spine.input = some a)
    (h : s.transitWithin) :
    (endTransit a.fate (keptBytes a.header rest) { s with spine := { s.spine with input := none } }).transitWithin := by
  unfold endTransit
  split
  · have hended := ended_mapLast (endedWith_ended (keptBytes a.header rest)) h.2.2.1
    have hin : ({ s with spine := { s.spine with
        transit := mapLast (TransitUnit.endedWith (keptBytes a.header rest)) s.spine.transit } } : State).transitWithin := by
      refine transitWithin_mapLast (s := s) rfl rfl (fun u hu _ => ?_) (fun u _ hu => endedWith_fits _ hu) (fun u _ hu => ?_) h
      · unfold TransitUnit.endedWith
        split
        · exact Nat.le_refl _
        · next hopen =>
          obtain ⟨b, hb, -, hlength⟩ := h.2.2.2 u hu (by simpa using hopen)
          obtain rfl : a = b := by simpa [ha] using hb
          have := keptBytes_length a.header rest
          simp only
          omega
      · simp [endedWith_ended] at hu
    exact transitWithin_of_all_ended hin.1 hin.2.1 hended
  · next hfate =>
    refine transitWithin_of_all_ended h.1 h.2.1 (all_ended_of_no_accepted (s := s) h fun b hb => ?_)
    obtain rfl : a = b := by simpa [ha] using hb
    exact hfate

theorem ownNote_transit (header : List Byte) (s : State) :
    (ownNote header s).spine.transit = s.spine.transit ∧ (ownNote header s).spine.input = s.spine.input := by
  unfold ownNote
  repeat' split
  all_goals exact ⟨rfl, rfl⟩

theorem ownUnit_transit (header : List Byte) (s : State) :
    (ownUnit header s).spine.transit = s.spine.transit ∧ (ownUnit header s).spine.input = s.spine.input := by
  unfold ownUnit ownFrame
  split
  · exact ownNote_transit header s
  · repeat' split
    all_goals exact ⟨rfl, rfl⟩

theorem handOn_transit (header : List Byte) (s : State) :
    (handOn header s).spine.transit = s.spine.transit ∧ (handOn header s).spine.input = s.spine.input := by
  rcases handOn_cases header s with h | h | ⟨-, -, h⟩ | h | h <;> rw [h]
  · exact ⟨rfl, rfl⟩
  · exact ownNote_transit header s
  · rw [peerPresence_sameBut header s .spine (by simp)]
    exact ⟨rfl, rfl⟩
  · rw [peerMarker_sameBut header s .spine (by simp)]
    exact ⟨rfl, rfl⟩
  · unfold ingestNote
    split <;> exact ⟨rfl, rfl⟩

theorem judgeEnd_transit (header rest : List Byte) (fate : ArrivalFate) (s : State) :
    (judgeEnd header rest fate s).spine.transit = s.spine.transit ∧
      (judgeEnd header rest fate s).spine.input = s.spine.input := by
  obtain ⟨s₁, hs₁, h⟩ := judgeEnd_cases header rest fate s
  have hspine : s₁.spine = s.spine := by rcases hs₁ with ⟨-, rfl⟩ | ⟨-, rfl⟩ <;> rfl
  rcases h with ⟨-, h⟩ | ⟨-, -, h⟩ | ⟨-, -, h⟩ | ⟨-, -, -, h⟩ <;> rw [h]
  · exact ⟨congrArg _ hspine, congrArg _ hspine⟩
  · exact ⟨congrArg _ hspine, congrArg _ hspine⟩
  · rw [arbitrate_spine_transit, arbitrate_spine_input, ← hspine]
    exact ownUnit_transit header s₁
  · rw [arbitrate_spine_transit, arbitrate_spine_input, ← hspine]
    exact handOn_transit header s₁

theorem transitWithin_endUnit (rest : List Byte) {s : State} (h : s.transitWithin) : (endUnit rest s).transitWithin := by
  rcases endUnit_cases rest s with ⟨-, heq⟩ | ⟨a, s₁, ha, rfl, ⟨hfate, heq⟩ | ⟨-, heq⟩⟩ <;> rw [heq]
  · exact h
  · refine transitWithin_of_all_ended h.1 h.2.1 (all_ended_of_no_accepted (s := s) h fun b hb => ?_)
    obtain rfl : a = b := by simpa [ha] using hb
    simp [hfate]
  · obtain ⟨htransit, hinput⟩ := judgeEnd_transit a.header rest a.fate
      (endTransit a.fate (keptBytes a.header rest) { s with spine := { s.spine with input := none } })
    exact transitWithin_of_same htransit hinput (transitWithin_endTransit rest ha h)

/-! ### The output's ends -/

theorem transitWithin_endForwarding {s : State} (h : s.transitWithin) : (endForwarding s).transitWithin := by
  unfold endForwarding
  split
  · next u rest hport htransit =>
    split
    · obtain ⟨hneed, hfits, hended, hinput⟩ := h
      rw [htransit] at hneed hfits hended hinput
      simp only [State.transitWithin, outputFreed_spine_transit, outputFreed_spine_input, noteSentUnit_spine_input]
      refine ⟨Nat.le_trans (Nat.le_add_left _ _) hneed, fun v hv => hfits v (List.mem_cons_of_mem u hv), fun v hv => ?_,
        fun v hv => hinput v (List.mem_cons_of_mem u hv)⟩
      cases rest with
      | nil => simp at hv
      | cons w more => exact hended v (List.mem_cons_of_mem u hv)
    · exact h
  · exact h

theorem transitWithin_endNote {s : State} (h : s.transitWithin) : (endNote s).transitWithin := by
  unfold endNote
  split
  · exact transitWithin_of_same (by simp) (by simp) h
  all_goals exact h

theorem transitWithin_endFrame {s : State} (h : s.transitWithin) : (endFrame s).transitWithin := by
  unfold endFrame
  split
  · exact transitWithin_of_same (by simp) (by simp) h
  all_goals exact h

/-! ### The tick -/

theorem ageOutIngest_transit (s : State) :
    (ageOutIngest s).spine.transit = s.spine.transit ∧ (ageOutIngest s).spine.input = s.spine.input := by
  unfold ageOutIngest
  split <;> simp

theorem openRing_transit (s : State) :
    (openRing s).spine.transit = s.spine.transit ∧ (openRing s).spine.input = s.spine.input := by
  unfold openRing
  split <;> exact ⟨rfl, rfl⟩

theorem paceTick_transit (s : State) :
    (paceTick s).spine.transit = s.spine.transit ∧ (paceTick s).spine.input = s.spine.input := by
  unfold paceTick
  split
  · simp [announce, advanceReturn, openRing_transit, ageIngest, ageOutIngest_transit]
  · exact ⟨rfl, rfl⟩

/-! ### Every step -/

theorem transitWithin_settling : SettlingKeeps State.transitWithin where
  memoryGap s h := transitWithin_of_same (by simp) (by simp) h
  due due s _ h := transitWithin_of_same (by simp) (by simp) h
  flush s h := transitWithin_of_same (by simp) (by simp) h

theorem acceptConfiguration_transit (c : Configuration) (s : State) :
    (acceptConfiguration c s).spine.transit = s.spine.transit ∧ (acceptConfiguration c s).spine.input = s.spine.input := by
  simp [acceptConfiguration]

theorem transitWithin_loadConfiguration (record : List Byte) (straps : BitVec 4) {s : State} (h : s.transitWithin) :
    (loadConfiguration record straps s).transitWithin := by
  unfold loadConfiguration
  split
  · split
    · obtain ⟨ht, hi⟩ := acceptConfiguration_transit (configurationOf record) (sampleStraps straps s)
      exact transitWithin_of_same (by rw [answer_spine, ht]; rfl) (by rw [answer_spine, hi]; rfl) h
    · exact h
  · exact h

theorem afterRead_transit (w : WorkingCopy) (slot : Nat) (x : Slot) (s : State) :
    (afterRead w slot x s).spine.transit = s.spine.transit ∧ (afterRead w slot x s).spine.input = s.spine.input := by
  have hcount := countRead_sameBut slot x s .spine (by simp)
  unfold afterRead
  split <;> simp only [truncateFrame_spine_transit, truncateFrame_spine_input, takeBlock_spine_transit, takeBlock_spine_input] <;>
    exact ⟨congrArg _ hcount, congrArg _ hcount⟩

theorem transitWithin_completeRead (corrected : Nat) (uncorrectable : Bool) {s : State} (h : s.transitWithin) :
    (completeRead corrected uncorrectable s).transitWithin := by
  rcases completeRead_cases corrected uncorrectable s with heq | ⟨-, heq⟩ | ⟨w, number, x, -, heq⟩ <;> rw [heq]
  · exact h
  · exact transitWithin_of_same (by simp) (by simp) h
  · obtain ⟨ht, hi⟩ := afterRead_transit w (s.readSlot w number) (x.found corrected uncorrectable) s
    exact transitWithin_of_same (by rw [portFreed_spine, ht]) (by rw [portFreed_spine, hi]) h

theorem transitWithin_qualifyMarker (line : Fin 4) (now : Nat) {s : State} (h : s.transitWithin) :
    (qualifyMarker line now s).transitWithin := by
  rcases qualifyMarker_cases line now s with heq | ⟨_, _, noted, s₁, -, -, -, rfl, ⟨-, heq⟩ | ⟨-, heq⟩⟩ <;> rw [heq]
  · exact h
  · exact transitWithin_of_same (by simp [acceptMarker]) (by simp [acceptMarker]) h
  · exact h

theorem transitWithin_effect (c : Instr) (s : State) (hc : resets c = false) (h : s.transitWithin) :
    (effect c s).transitWithin := by
  have hite {p : Prop} [Decidable p] {t : State} (ht : t.transitWithin) : (if p then t else s).transitWithin := by
    split <;> assumption
  have hsame := effect_sameBut c s
  cases c with
  | powerOn straps => exact nomatch hc
  | resetAssert => exact nomatch hc
  | resetRelease straps => exact nomatch hc
  | loadConfig record straps => exact hite (transitWithin_loadConfiguration _ straps h)
  | softReset => exact hite h
  | markerQualify line now => exact transitWithin_qualifyMarker line now h
  | blockReadComplete corrected uncorrectable => exact transitWithin_completeRead corrected uncorrectable h
  | trailerPlace => exact transitWithin_settling.takeIfDue _ s h
  | gapFramePlace => exact transitWithin_settling.takeIfDue _ s h
  | dataFrameStart => exact transitWithin_settling.takeIfDue _ s h
  | memoryGapPlace => exact transitWithin_settling.memoryGap s h
  | unitHeaderArrival header sent =>
    simp only [effect]
    split
    · exact h
    · next hinput =>
      refine transitWithin_arriveHeader _ ?_ (transitWithin_noteSent sent h)
      rw [noteSent_input]
      exact not_accepted_of_not_awaited (by simpa using hinput)
  | unitEnd rest => exact transitWithin_endUnit rest h
  | forwardingEnd arrived => exact transitWithin_endForwarding (transitWithin_noteReceived arrived h)
  | noteInsertionEnd arrived => exact transitWithin_endNote (transitWithin_noteReceived arrived h)
  | frameInsertionComplete arrived => exact transitWithin_endFrame (transitWithin_noteReceived arrived h)
  | paceTick => exact transitWithin_of_same (paceTick_transit s).1 (paceTick_transit s).2 h
  | ingestAgeOut => exact transitWithin_of_same (ageOutIngest_transit s).1 (ageOutIngest_transit s).2 h
  | ringOpen => exact transitWithin_of_same (openRing_transit s).1 (openRing_transit s).2 h
  | _ =>
    have hspine := hsame .spine (by simp [reach])
    exact transitWithin_of_same (congrArg Spine.transit hspine) (congrArg Spine.input hspine) h

/-- Settles O57: every step keeps what the units can still need within the buffer, and the occupancy is no more. -/
theorem transitKept : Obligations.TransitKept := by
  have hempty {s : State} (h : s.spine.transit = []) : s.transitWithin := by
    simp [State.transitWithin, h, transitNeed]
  have hkeeps : StepKeeps State.transitWithin :=
    { transitWithin_settling with
      queue := fun _ _ h => h
      fresh := fun _ _ => hempty rfl
      held := fun _ => hempty rfl
      lane := fun _ _ _ h => h
      report := fun before s h =>
        transitWithin_of_same (by rw [report_spine]) (by rw [report_spine]) h
      effect := fun c s hc _ h => transitWithin_effect c s hc h }
  exact ⟨fun _ _ hs h => hkeeps.step hs h, fun s h =>
    Nat.le_trans (occupancy_le_transitNeed fun u hu => (h.2.1 u hu).1) h.1⟩

end Sys2Proof.Machine
end

section
/-! PROOFS. The states of the intake, the station and the timers in every step, and the peer table (R4, R7, R31, R140, R146,
R158, R160, R169): the run start, the run end, the flush completion, the acceptance of a configuration and SOFT RESET move
them together, and nothing else moves them but the advance of the intake and the join. -/

namespace Sys2Proof.Machine

/-! ### The phases -/

/-- The phases agree wherever what they speak of stands as it did. -/
theorem phasesAgree_of_same {s t : State} (hintake : t.intake.phase = s.intake.phase)
    (hending : t.intake.ending = s.intake.ending) (hpoint : t.intake.point = s.intake.point)
    (hstation : t.station = s.station) (hticking : t.presence.ticking = s.presence.ticking)
    (htimer : t.memory.refreshTimer.isSome = s.memory.refreshTimer.isSome) (hheld : t.resetHeld = s.resetHeld)
    (h : s.phasesAgree) : t.phasesAgree := by
  rw [State.phasesAgree, Intake.expectedEnd, hintake, hending, hpoint, hstation, hticking, htimer, hheld]
  exact h

theorem station_run_of_taking {s : State} (h : s.phasesAgree) (ht : s.intake.phase = .taking) :
    s.station.phase = .run := by
  have hphase := h.1
  rw [ht] at hphase
  cases hs : s.station.phase with
  | run => rfl
  | _ =>
    rw [hs] at hphase
    exact nomatch hphase

theorem taking_of_station_run {s : State} (h : s.phasesAgree) (hr : s.station.phase = .run) :
    s.intake.phase = .taking := by
  rw [h.1, hr]
  rfl

theorem ending_none_of_run {s : State} (h : s.phasesAgree) (hr : s.station.phase = .run) : s.intake.ending = none := by
  rw [h.2.1, Intake.expectedEnd, taking_of_station_run h hr]

/-- What the configured states other than the run share: the configuration, the tick and the refresh timer stand. -/
theorem configured_of_phase {s : State} (h : s.phasesAgree) (hp : s.station.phase ≠ .unconfigured) :
    s.station.config.isSome = true ∧ s.presence.ticking = true ∧ s.memory.refreshTimer.isSome = true ∧
      s.resetHeld = false := by
  obtain ⟨-, -, -, hconfig, hticking, htimer, hheld⟩ := h
  refine ⟨hconfig.2 hp, hticking.2 hp, htimer.2 hp, ?_⟩
  cases hr : s.resetHeld with
  | false => rfl
  | true => exact absurd (hheld hr) hp

/-- In every state but UNCONFIGURED the phases agree by the intake's part alone, where the rest stands. -/
theorem phasesAgree_of_configured {t : State} (hp : t.station.phase ≠ .unconfigured)
    (hintake : t.intake.phase = intakePhaseIn t.station.phase) (hending : t.intake.ending = t.intake.expectedEnd)
    (hidle : t.intake.phase = .idle → t.intake.point = 0) (hconfig : t.station.config.isSome = true)
    (hticking : t.presence.ticking = true) (htimer : t.memory.refreshTimer.isSome = true)
    (hheld : t.resetHeld = false) : t.phasesAgree := by
  refine ⟨hintake, hending, hidle, ?_⟩
  simp [hp, hconfig, hticking, htimer, hheld]

theorem phasesAgree_endRun {s : State} (hr : s.station.phase = .run) (h : s.phasesAgree) : (endRun s).phasesAgree := by
  obtain ⟨hconfig, hticking, htimer, hheld⟩ := configured_of_phase h (by simp [hr])
  refine phasesAgree_of_configured ?_ ?_ ?_ ?_ ?_ ?_ ?_ ?_ <;>
    simp [intakePhaseIn, Intake.expectedEnd, hconfig, hticking, htimer, hheld]

theorem phasesAgree_takeStop {s : State} (hr : s.station.phase = .run) (h : s.phasesAgree) : (takeStop s).phasesAgree := by
  unfold takeStop
  split
  · exact phasesAgree_of_same rfl rfl rfl rfl rfl rfl rfl h
  · exact phasesAgree_endRun hr h

/-- The intake advances in TAKING, where its end stays absent (R6, R7). -/
theorem advanceIntake_intake (lanes : Vector Sample 8) (s : State) :
    (advanceIntake lanes s).intake.phase = s.intake.phase ∧ (advanceIntake lanes s).intake.ending = s.intake.ending ∧
      (advanceIntake lanes s).intake.point = s.intake.point + 1 := by
  simp only [advanceIntake, considerHead_intake]
  split <;> simp [writeSample]

theorem phasesAgree_advanceIntake (lanes : Vector Sample 8) {s : State} (ht : s.intake.phase = .taking)
    (h : s.phasesAgree) : (advanceIntake lanes s).phasesAgree := by
  have hr := station_run_of_taking h ht
  obtain ⟨hconfig, hticking, htimer, hheld⟩ := configured_of_phase h (by simp [hr])
  obtain ⟨hphase, hending, -⟩ := advanceIntake_intake lanes s
  refine phasesAgree_of_configured ?_ ?_ ?_ ?_ ?_ ?_ ?_ ?_ <;>
    simp [intakePhaseIn, Intake.expectedEnd, hphase, hending, ht, hr, ending_none_of_run h hr, hconfig, hticking, htimer,
      hheld]

theorem phasesAgree_takeSampleSet (lanes : Vector Sample 8) {s : State} (ht : s.intake.phase = .taking)
    (h : s.phasesAgree) : (takeSampleSet lanes s).phasesAgree := by
  have hr : (advanceIntake lanes s).station.phase = .run := by simpa using station_run_of_taking h ht
  have hset := phasesAgree_advanceIntake lanes ht h
  unfold takeSampleSet
  simp only
  split
  · exact phasesAgree_of_same (s := endRun (advanceIntake lanes s)) rfl rfl rfl rfl rfl rfl rfl (phasesAgree_endRun hr hset)
  · split
    · exact phasesAgree_endRun hr hset
    · exact hset

theorem phasesAgree_beginRun {s : State} (hp : s.station.phase ≠ .unconfigured) (h : s.phasesAgree) :
    (beginRun { s with station := { s.station with startCount := s.station.startCount + 1 } }).phasesAgree := by
  obtain ⟨hconfig, hticking, htimer, hheld⟩ := configured_of_phase h hp
  exact phasesAgree_of_configured (by simp [beginRun]) rfl rfl (by simp [beginRun]) hconfig hticking htimer hheld

theorem phasesAgree_takeStart {s : State} (h : s.phasesAgree) : (takeStart s).phasesAgree := by
  unfold takeStart
  split
  · next hp => exact phasesAgree_beginRun (by simp [hp]) h
  · next hp => exact phasesAgree_beginRun (by simp [hp]) h
  · next hp => exact phasesAgree_beginRun (by simp [hp]) h
  · exact h
  · exact h
  · exact h

theorem phasesAgree_completeFlush {s : State} (h : s.phasesAgree) : (completeFlush s).phasesAgree := by
  unfold completeFlush
  split
  · next hflush =>
    obtain ⟨hconfig, hticking, htimer, hheld⟩ := configured_of_phase h (by simp [hflush.1])
    have hended : s.intake.phase = .ended := by rw [h.1, hflush.1]; rfl
    exact phasesAgree_of_configured (by simp) hended h.2.1 h.2.2.1 hconfig hticking htimer hheld
  · exact h

theorem phasesAgree_acceptConfiguration (c : Configuration) {s : State} (hp : s.station.phase = .unconfigured)
    (hr : s.resetHeld = false) (h : s.phasesAgree) : (acceptConfiguration c s).phasesAgree := by
  have hidle : s.intake.phase = .idle := by rw [h.1, hp]; rfl
  refine phasesAgree_of_configured ?_ ?_ ?_ ?_ ?_ ?_ ?_ ?_
  all_goals simp [acceptConfiguration, intakePhaseIn, Intake.expectedEnd, hidle, hr, h.2.1, h.2.2.1]

theorem phasesAgree_loadConfiguration (record : List Byte) (straps : BitVec 4) {s : State} (hr : s.resetHeld = false)
    (h : s.phasesAgree) : (loadConfiguration record straps s).phasesAgree := by
  unfold loadConfiguration
  split
  · next hp =>
    split
    · exact phasesAgree_acceptConfiguration (s := sampleStraps straps s) _ hp hr h
    · exact h
  · exact h

/-- The join moves JOINING to READY, where the intake is IDLE alike (R144). -/
theorem phasesAgree_of_staysOrJoins {s t : State} (hstation : StaysOrJoins s t) (hintake : t.intake = s.intake)
    (hmemory : t.memory = s.memory) (hticking : t.presence.ticking = s.presence.ticking)
    (hheld : t.resetHeld = s.resetHeld) (h : s.phasesAgree) : t.phasesAgree := by
  rcases hstation with hsame | ⟨hp, hjoin⟩
  · exact phasesAgree_of_same (by rw [hintake]) (by rw [hintake]) (by rw [hintake]) hsame hticking (by rw [hmemory]) hheld h
  · obtain ⟨hconfig, htick, htimer, hr⟩ := configured_of_phase h (by simp [hp])
    have hidle : s.intake.phase = .idle := by rw [h.1, hp]; rfl
    refine phasesAgree_of_configured ?_ ?_ ?_ ?_ ?_ ?_ ?_ ?_
    all_goals simp [hjoin, hintake, hmemory, hticking, hheld, hconfig, htick, htimer, hr, intakePhaseIn, hidle, h.2.1, h.2.2.1]

/-! ### The tick of the Presence Unit -/

theorem ownNote_ticking (header : List Byte) (s : State) :
    (ownNote header s).presence.ticking = s.presence.ticking := by
  unfold ownNote
  repeat' split
  all_goals rfl

theorem ownUnit_ticking (header : List Byte) (s : State) :
    (ownUnit header s).presence.ticking = s.presence.ticking := by
  unfold ownUnit ownFrame
  split
  · exact ownNote_ticking header s
  · repeat' split
    all_goals rfl

theorem handOn_ticking (header : List Byte) (s : State) : (handOn header s).presence.ticking = s.presence.ticking := by
  rcases handOn_cases header s with h | h | ⟨-, -, h⟩ | h | h <;> rw [h]
  · exact ownNote_ticking header s
  · unfold peerPresence
    split <;> rfl
  · rw [peerMarker_sameBut header s .presence (by simp)]
  · unfold ingestNote
    split <;> rfl

theorem endUnit_ticking (rest : List Byte) (s : State) : (endUnit rest s).presence.ticking = s.presence.ticking := by
  rcases endUnit_cases rest s with ⟨-, h⟩ | ⟨a, s₁, -, rfl, ⟨-, h⟩ | ⟨-, h⟩⟩ <;> rw [h]
  · rfl
  · have htransit (t : State) := endTransit_sameBut a.fate (keptBytes a.header rest) t .presence (by simp)
    obtain ⟨s₁, hs₁, hend⟩ := judgeEnd_cases a.header rest a.fate
      (endTransit a.fate (keptBytes a.header rest) { s with spine := { s.spine with input := none } })
    have hpresence : s₁.presence = s.presence := by
      rcases hs₁ with ⟨-, rfl⟩ | ⟨-, rfl⟩
      · exact htransit _
      · exact htransit _
    rcases hend with ⟨-, hend⟩ | ⟨-, -, hend⟩ | ⟨-, -, hend⟩ | ⟨-, -, -, hend⟩ <;> rw [hend]
    · exact congrArg _ hpresence
    · exact congrArg _ hpresence
    · rw [arbitrate_presence, ownUnit_ticking, hpresence]
    · rw [arbitrate_presence, handOn_ticking, hpresence]

@[simp] theorem openRing_presence (s : State) : (openRing s).presence = s.presence :=
  openRing_sameBut s .presence (by simp)

/-- Of the Presence Unit the ageing out takes the record alone (R150). -/
theorem ageOutIngest_presence (s : State) :
    (ageOutIngest s).presence = if s.ingestOut then { s.presence with ingest := none } else s.presence := by
  unfold ageOutIngest
  split <;> simp_all

theorem ageOutIngest_ticking (s : State) : (ageOutIngest s).presence.ticking = s.presence.ticking := by
  rw [ageOutIngest_presence]
  split <;> rfl

theorem paceTick_ticking (s : State) : (paceTick s).presence.ticking = s.presence.ticking := by
  cases ht : s.presence.ticking with
  | false => simp [paceTick, ht]
  | true =>
    rw [paceTick_presence ht, announce_presence, computeLevels, advanceReturn, openRing_presence, ageIngest]
    simp only [ageOutIngest_ticking]
    exact ht

theorem judgePeer_ticking (phases : PeerPhase → Bool) (address : BitVec 4) (s : State) :
    (judgePeer phases address s).presence.ticking = s.presence.ticking := by
  unfold judgePeer
  split <;> rfl

/-! ### The refresh timer -/

theorem refreshExpired_timer (s : State) : (refreshExpired s).memory.refreshTimer.isSome = s.memory.refreshTimer.isSome := by
  unfold refreshExpired
  split
  · rfl
  · next h => split <;> simp [h]

theorem completeWrite_timer (s : State) : (completeWrite s).memory.refreshTimer = s.memory.refreshTimer := by
  have hstore : (storeHead s).memory.refreshTimer = s.memory.refreshTimer := by
    unfold storeHead
    split <;> rfl
  unfold completeWrite
  repeat' split
  all_goals simp [hstore]

theorem afterRead_timer (w : WorkingCopy) (slot : Nat) (x : Slot) (s : State) :
    (afterRead w slot x s).memory.refreshTimer = s.memory.refreshTimer := by
  unfold afterRead
  split <;> simp

theorem completeRead_timer (corrected : Nat) (uncorrectable : Bool) (s : State) :
    (completeRead corrected uncorrectable s).memory.refreshTimer = s.memory.refreshTimer := by
  rcases completeRead_cases corrected uncorrectable s with h | ⟨-, h⟩ | ⟨w, number, x, -, h⟩ <;> rw [h]
  · exact portFreed_memory_refreshTimer s
  · rw [portFreed_memory_refreshTimer, afterRead_timer]

theorem completeRefresh_timer (s : State) : (completeRefresh s).memory.refreshTimer = s.memory.refreshTimer := by
  unfold completeRefresh
  repeat' split
  all_goals simp

/-! ### Every step -/

theorem phasesAgree_settling : SettlingKeeps State.phasesAgree where
  memoryGap s h := phasesAgree_of_same (by simp) (by simp) (by simp) (by simp) (by simp) (by simp) (by simp) h
  due due s _ h := phasesAgree_of_same (by simp) (by simp) (by simp) (by simp) (by simp) (by simp) (by simp) h
  flush s h := phasesAgree_completeFlush h

theorem phasesAgree_unconfigured {s : State} (hi : s.intake.phase = .idle) (he : s.intake.ending = none)
    (hp : s.intake.point = 0) (hs : s.station.phase = .unconfigured) (hc : s.station.config = none)
    (ht : s.presence.ticking = false) (hm : s.memory.refreshTimer = none) : s.phasesAgree := by
  simp [State.phasesAgree, Intake.expectedEnd, intakePhaseIn, hi, he, hp, hs, hc, ht, hm]

theorem phasesAgree_effect (c : Instr) (s : State) (hc : resets c = false) (hr : s.resetHeld = false)
    (h : s.phasesAgree) : (effect c s).phasesAgree := by
  have hite {p : Prop} [Decidable p] {t : State} (ht : p → t.phasesAgree) : (if p then t else s).phasesAgree := by
    split
    · exact ht ‹_›
    · exact h
  have hsame := effect_sameBut c s
  have hrest (hintake : .intake ∉ reach c) (hstation : .station ∉ reach c) (hheld : .resetHeld ∉ reach c)
      (hticking : (effect c s).presence.ticking = s.presence.ticking)
      (htimer : (effect c s).memory.refreshTimer.isSome = s.memory.refreshTimer.isSome) : (effect c s).phasesAgree :=
    phasesAgree_of_same (congrArg _ (hsame .intake hintake)) (congrArg _ (hsame .intake hintake))
      (congrArg _ (hsame .intake hintake)) (hsame .station hstation) hticking htimer (hsame .resetHeld hheld) h
  cases c with
  | powerOn straps => exact nomatch hc
  | resetAssert => exact nomatch hc
  | resetRelease straps => exact nomatch hc
  | loadConfig record straps => exact hite fun _ => phasesAgree_loadConfiguration _ straps hr h
  | stopRun =>
    refine hite fun _ => ?_
    split
    · next hrun => exact phasesAgree_takeStop hrun h
    · exact h
  | softReset => exact hite fun _ => phasesAgree_unconfigured rfl rfl rfl rfl rfl rfl rfl
  | sampleSetTaken lanes => exact hite fun ht => phasesAgree_takeSampleSet lanes ht h
  | laneAlignmentChange lane out => exact h
  | startEdge => exact phasesAgree_takeStart h
  | stopEdge => exact hite fun hrun => phasesAgree_takeStop hrun h
  | flushComplete => exact phasesAgree_completeFlush h
  | unitEnd rest =>
    exact phasesAgree_of_staysOrJoins (endUnit_staysOrJoins rest s) (hsame .intake (by simp [reach]))
      (hsame .memory (by simp [reach])) (endUnit_ticking rest s) (hsame .resetHeld (by simp [reach])) h
  | blockWriteComplete =>
    exact hrest (by simp [reach]) (by simp [reach]) (by simp [reach])
      (congrArg _ (hsame .presence (by simp [reach]))) (congrArg _ (completeWrite_timer s))
  | blockReadComplete corrected uncorrectable =>
    exact hrest (by simp [reach]) (by simp [reach]) (by simp [reach])
      (congrArg _ (hsame .presence (by simp [reach]))) (congrArg _ (completeRead_timer corrected uncorrectable s))
  | refreshComplete =>
    exact hrest (by simp [reach]) (by simp [reach]) (by simp [reach])
      (congrArg _ (hsame .presence (by simp [reach]))) (congrArg _ (completeRefresh_timer s))
  | refreshExpiry =>
    exact hrest (by simp [reach]) (by simp [reach]) (by simp [reach])
      (congrArg _ (hsame .presence (by simp [reach]))) (refreshExpired_timer s)
  | thermalReading celsius => exact h
  | trailerPlace => exact phasesAgree_settling.takeIfDue _ s h
  | gapFramePlace => exact phasesAgree_settling.takeIfDue _ s h
  | dataFrameStart => exact phasesAgree_settling.takeIfDue _ s h
  | paceTick =>
    exact hrest (by simp [reach]) (by simp [reach]) (by simp [reach]) (paceTick_ticking s)
      (congrArg _ (congrArg _ (hsame .memory (by simp [reach]))))
  | ingestAgeOut =>
    exact hrest (by simp [reach]) (by simp [reach]) (by simp [reach]) (ageOutIngest_ticking s)
      (congrArg _ (congrArg _ (hsame .memory (by simp [reach]))))
  | peerStaleExpiry address =>
    exact hrest (by simp [reach]) (by simp [reach]) (by simp [reach])
      (judgePeer_ticking _ address s) (congrArg _ (congrArg _ (hsame .memory (by simp [reach]))))
  | peerAbsentExpiry address =>
    exact hrest (by simp [reach]) (by simp [reach]) (by simp [reach])
      (judgePeer_ticking _ address s) (congrArg _ (congrArg _ (hsame .memory (by simp [reach]))))
  | _ =>
    exact hrest (by simp [reach]) (by simp [reach]) (by simp [reach])
      (congrArg _ (hsame .presence (by simp [reach]))) (congrArg _ (congrArg _ (hsame .memory (by simp [reach]))))

theorem phasesAgree_stepKeeps : StepKeeps State.phasesAgree :=
  { phasesAgree_settling with
    queue := fun _ _ h => h
    fresh := fun _ _ => phasesAgree_unconfigured rfl rfl rfl rfl rfl rfl rfl
    held := fun _ => phasesAgree_unconfigured rfl rfl rfl rfl rfl rfl rfl
    lane := fun _ _ _ h => h
    report := fun before s h =>
      phasesAgree_of_same (by simp) (by simp) (by simp) (by simp) (by simp) (by simp) (by simp) h
    effect := phasesAgree_effect }

/-! ### The peer table -/

theorem peersSound_of_same {s t : State} (hp : t.presence.peers = s.presence.peers)
    (ha : t.spine.ownAddress = s.spine.ownAddress) (h : s.peersSound) : t.peersSound := by
  rw [State.peersSound, hp, ha]
  exact h

theorem mapNth_eq_modify {α : Type} (f : α → α) : ∀ (n : Nat) (l : List α), mapNth f n l = l.modify n f
  | 0, [] => rfl
  | _ + 1, [] => rfl
  | 0, _ :: _ => rfl
  | n + 1, x :: rest => by rw [mapNth, mapNth_eq_modify f n rest, List.modify_succ_cons]

theorem getElem?_mapNth {α : Type} (f : α → α) (n : Nat) (l : List α) (k : Nat) :
    (mapNth f n l)[k]? = if n = k then l[k]?.map f else l[k]? := by
  rw [mapNth_eq_modify, List.getElem?_modify]
  split <;> simp

/-- A change of entries by `f` keeps the table sound: ABSENT entries stay, and `f` makes none but the zero one. -/
def KeepsAbsent (f : PeerEntry → PeerEntry) : Prop :=
  ∀ e : PeerEntry, (e.phase = .absent → e = {}) → (e.phase = .absent → f e = e) ∧ ((f e).phase = .absent → f e = {})

theorem judged_keepsAbsent : KeepsAbsent PeerEntry.judged := by
  intro e he
  unfold PeerEntry.judged
  refine ⟨fun habsent => by simp [habsent], fun habsent => ?_⟩
  split at habsent
  · exact he habsent
  · split at habsent <;> simp_all
  · split at habsent <;> simp_all
  · split at habsent <;> simp_all

theorem aged_keepsAbsent : KeepsAbsent PeerEntry.aged := by
  intro e he
  unfold PeerEntry.aged
  split
  · next habsent => exact ⟨fun _ => rfl, he⟩
  · next hpresent =>
    have holder := judged_keepsAbsent { e with age := e.age + 1 } fun h => absurd h hpresent
    exact ⟨fun h => absurd h hpresent, holder.2⟩

theorem ite_keepsAbsent {f : PeerEntry → PeerEntry} (hf : KeepsAbsent f) (p : PeerEntry → Bool) :
    KeepsAbsent fun e => if p e then f e else e := by
  intro e he
  simp only
  split
  · exact hf e he
  · exact ⟨fun _ => rfl, he⟩

theorem peersSound_map {s t : State} {f : PeerEntry → PeerEntry} (hf : KeepsAbsent f)
    (hp : t.presence.peers = s.presence.peers.map f) (ha : t.spine.ownAddress = s.spine.ownAddress) (h : s.peersSound) :
    t.peersSound := by
  obtain ⟨hzero, hown⟩ := h
  rw [State.peersSound, hp, ha]
  refine ⟨fun e he habsent => ?_, fun a e hs hpos he => ?_⟩
  · obtain ⟨x, hx, rfl⟩ := List.mem_map.1 he
    exact (hf x (hzero x hx)).2 habsent
  · rw [List.getElem?_map, Option.map_eq_some_iff] at he
    obtain ⟨x, hx, rfl⟩ := he
    have habsent := hown a x hs hpos hx
    rwa [(hf x (hzero x (List.mem_of_getElem? hx))).1 habsent]

theorem peersSound_mapNth {s t : State} {f : PeerEntry → PeerEntry} (hf : KeepsAbsent f) (n : Nat)
    (hp : t.presence.peers = mapNth f n s.presence.peers) (ha : t.spine.ownAddress = s.spine.ownAddress)
    (h : s.peersSound) : t.peersSound := by
  obtain ⟨hzero, hown⟩ := h
  rw [State.peersSound, hp, ha]
  refine ⟨fun e he habsent => ?_, fun a e hs hpos he => ?_⟩
  · rcases mem_mapNth he with he | ⟨x, hx, rfl⟩
    · exact hzero e he habsent
    · exact (hf x (hzero x hx)).2 habsent
  · rw [getElem?_mapNth] at he
    split at he
    · obtain ⟨x, hx, rfl⟩ := Option.map_eq_some_iff.1 he
      have habsent := hown a x hs hpos hx
      rwa [(hf x (hzero x (List.mem_of_getElem? hx))).1 habsent]
    · exact hown a e hs hpos he

/-- A sample of the straps clears the entry at the address that becomes the own one (R146; log 17). -/
theorem peersSound_sampleStraps (straps : BitVec 4) {s : State} (h : s.peersSound) : (sampleStraps straps s).peersSound := by
  obtain ⟨hzero, hown⟩ := h
  rw [State.peersSound, sampleStraps_presence_peers, sampleStraps_spine_ownAddress]
  cases haddress : isStationAddress straps with
  | true =>
    simp only [peersSampled, State.addressSampled, haddress, if_true]
    refine ⟨fun e he habsent => ?_, fun a e hs _ he => ?_⟩
    · rcases mem_mapNth he with he | ⟨x, -, rfl⟩
      · exact hzero e he habsent
      · rfl
    · obtain rfl := Option.some.inj hs
      have htoNat : (straps.setWidth 8).toNat = straps.toNat := by
        rw [BitVec.toNat_setWidth]
        omega
      rw [htoNat, getElem?_mapNth, if_pos rfl] at he
      obtain ⟨x, -, rfl⟩ := Option.map_eq_some_iff.1 he
      rfl
  | false =>
    simp only [peersSampled, State.addressSampled, haddress, Bool.false_eq_true, if_false]
    refine ⟨hzero, fun a e hs hpos he => ?_⟩
    split at hs
    · exact nomatch hs
    · exact hown a e hs hpos he

theorem peersSound_loadConfiguration (record : List Byte) (straps : BitVec 4) {s : State} (h : s.peersSound) :
    (loadConfiguration record straps s).peersSound := by
  have hstraps := peersSound_sampleStraps straps h
  unfold loadConfiguration
  split
  · split
    · exact peersSound_of_same (by simp [acceptConfiguration]) (by simp [acceptConfiguration]) hstraps
    · exact hstraps
  · exact hstraps

/-- A peer's note fills the entry at another address than the own one, and never with an ABSENT entry (R147). -/
theorem peersSound_peerPresence (header : List Byte) {s : State} (hown : s.isOwnSource header = false)
    (hpeer : isPeerSource (sourceOf header) = true) (h : s.peersSound) : (peerPresence header s).peersSound := by
  unfold peerPresence
  split
  · exact h
  · obtain ⟨hzero, hentry⟩ := h
    refine ⟨fun e he habsent => ?_, fun a e hs hpos he => ?_⟩
    · rcases mem_mapNth he with he | ⟨x, -, rfl⟩
      · exact hzero e he habsent
      · simp only [peerEntryOf] at habsent
        split at habsent <;> exact nomatch habsent
    · have hother : ¬(sourceOf header).toNat - 1 = a.toNat - 1 := by
        intro hsame
        have hsource : a = sourceOf header := by
          simp only [isPeerSource, Bool.and_eq_true, decide_eq_true_eq] at hpeer
          exact BitVec.eq_of_toNat_eq (by omega)
        simp [State.isOwnSource, ← hsource, show s.spine.ownAddress = some a from hs] at hown
      rw [getElem?_mapNth, if_neg hother] at he
      exact hentry a e hs hpos he

/-- What a hand-on makes of the peer table, but for a peer's note, and of the own address: nothing. -/
theorem ownNote_peers (header : List Byte) (s : State) :
    (ownNote header s).presence.peers = s.presence.peers ∧ (ownNote header s).spine.ownAddress = s.spine.ownAddress := by
  unfold ownNote
  repeat' split
  all_goals exact ⟨rfl, rfl⟩

theorem peersSound_ownUnit (header : List Byte) {s : State} (h : s.peersSound) : (ownUnit header s).peersSound := by
  unfold ownUnit ownFrame
  split
  · exact peersSound_of_same (ownNote_peers header s).1 (ownNote_peers header s).2 h
  · repeat' split
    all_goals exact h

theorem peersSound_handOn (header : List Byte) {s : State} (h : s.peersSound) : (handOn header s).peersSound := by
  rcases handOn_cases header s with heq | heq | ⟨hown, hpeer, heq⟩ | heq | heq <;> rw [heq]
  · exact h
  · exact peersSound_of_same (ownNote_peers header s).1 (ownNote_peers header s).2 h
  · exact peersSound_peerPresence header hown hpeer h
  · have hsame := peerMarker_sameBut header s
    exact peersSound_of_same (congrArg _ (hsame .presence (by simp))) (congrArg _ (hsame .spine (by simp))) h
  · unfold ingestNote
    split <;> exact h

theorem peersSound_endUnit (rest : List Byte) {s : State} (h : s.peersSound) : (endUnit rest s).peersSound := by
  rcases endUnit_cases rest s with ⟨-, heq⟩ | ⟨a, s₁, -, rfl, ⟨-, heq⟩ | ⟨-, heq⟩⟩ <;> rw [heq]
  · exact h
  · exact h
  · have htransit : (endTransit a.fate (keptBytes a.header rest)
        { s with spine := { s.spine with input := none } }).peersSound := by
      unfold endTransit
      split <;> exact h
    obtain ⟨s₁, hs₁, hend⟩ := judgeEnd_cases a.header rest a.fate
      (endTransit a.fate (keptBytes a.header rest) { s with spine := { s.spine with input := none } })
    have hs : s₁.peersSound := by rcases hs₁ with ⟨-, rfl⟩ | ⟨-, rfl⟩ <;> exact htransit
    have harbitrate {t : State} (ht : t.peersSound) : (arbitrate t).peersSound :=
      peersSound_of_same (by simp) (by simp) ht
    rcases hend with ⟨-, hend⟩ | ⟨-, -, hend⟩ | ⟨-, -, hend⟩ | ⟨-, -, -, hend⟩ <;> rw [hend]
    · exact hs
    · exact hs
    · exact harbitrate (peersSound_ownUnit a.header hs)
    · exact harbitrate (peersSound_handOn a.header hs)

theorem ageOutIngest_ownAddress (s : State) : (ageOutIngest s).spine.ownAddress = s.spine.ownAddress := by
  unfold ageOutIngest
  split <;> simp

theorem openRing_ownAddress (s : State) : (openRing s).spine.ownAddress = s.spine.ownAddress := by
  unfold openRing
  split <;> rfl

theorem ageOutIngest_peers (s : State) : (ageOutIngest s).presence.peers = s.presence.peers := by
  rw [ageOutIngest_presence]
  split <;> rfl

theorem paceTick_peers {s : State} (h : s.presence.ticking = true) :
    (paceTick s).presence.peers = s.presence.peers.map PeerEntry.aged := by
  rw [paceTick_presence h, announce_presence, computeLevels, advanceReturn, openRing_presence, ageIngest]
  simp only [ageOutIngest_peers]
  rfl

theorem paceTick_ownAddress (s : State) : (paceTick s).spine.ownAddress = s.spine.ownAddress := by
  unfold paceTick
  split
  · simp [announce, advanceReturn, openRing_ownAddress, ageIngest, ageOutIngest_ownAddress]
  · rfl

theorem peersSound_paceTick {s : State} (h : s.peersSound) : (paceTick s).peersSound := by
  cases ht : s.presence.ticking with
  | false => simpa [paceTick, ht] using h
  | true => exact peersSound_map aged_keepsAbsent (paceTick_peers ht) (paceTick_ownAddress s) h

theorem peersSound_judgePeer (phases : PeerPhase → Bool) (address : BitVec 4) {s : State} (h : s.peersSound) :
    (judgePeer phases address s).peersSound := by
  unfold judgePeer
  split
  · exact peersSound_mapNth (s := s) (ite_keepsAbsent judged_keepsAbsent fun e => phases e.phase) _ rfl rfl h
  · exact h

theorem peersSound_fresh {s : State} (hp : s.presence.peers = State.reset.presence.peers)
    (ha : s.spine.ownAddress = none) : s.peersSound := by
  have hreset : ∀ e ∈ State.reset.presence.peers, e = {} := by decide
  rw [State.peersSound, hp, ha]
  exact ⟨fun e he _ => hreset e he, fun _ _ hs => nomatch hs⟩

theorem peersSound_softReset {s : State} : (softResetStation s).peersSound := by
  have hreset : ∀ e ∈ State.reset.presence.peers, e = {} := by decide
  refine ⟨fun e he _ => hreset e he, fun a e _ _ he => ?_⟩
  rw [hreset e (List.mem_of_getElem? he)]

theorem peersSound_settling : SettlingKeeps State.peersSound where
  memoryGap s h := peersSound_of_same (by simp) (by simp) h
  due due s _ h := peersSound_of_same (by simp) (by simp) h
  flush s h := peersSound_of_same (by simp) (by simp) h

theorem noteSent_ownAddress (sent : Nat) (s : State) : (noteSent sent s).spine.ownAddress = s.spine.ownAddress := by
  unfold noteSent
  split <;> rfl

theorem arriveHeader_ownAddress (header : List Byte) (s : State) :
    (arriveHeader header s).spine.ownAddress = s.spine.ownAddress := by
  unfold arriveHeader
  split <;> simp [acceptUnit, setInput]

theorem outputEnd_ownAddress (s : State) :
    (endForwarding s).spine.ownAddress = s.spine.ownAddress ∧ (endNote s).spine.ownAddress = s.spine.ownAddress ∧
      (endFrame s).spine.ownAddress = s.spine.ownAddress := by
  refine ⟨?_, ?_, ?_⟩
  · unfold endForwarding
    repeat' split
    all_goals simp
  · unfold endNote
    split <;> simp
  · unfold endFrame
    split <;> simp

theorem afterRead_ownAddress (w : WorkingCopy) (slot : Nat) (x : Slot) (s : State) :
    (afterRead w slot x s).spine.ownAddress = s.spine.ownAddress := by
  have hcount := countRead_sameBut slot x s .spine (by simp)
  unfold afterRead
  split <;> simp only [truncateFrame_spine_ownAddress, takeBlock_spine_ownAddress] <;> exact congrArg _ hcount

theorem completeRead_ownAddress (corrected : Nat) (uncorrectable : Bool) (s : State) :
    (completeRead corrected uncorrectable s).spine.ownAddress = s.spine.ownAddress := by
  rcases completeRead_cases corrected uncorrectable s with h | ⟨-, h⟩ | ⟨w, number, x, -, h⟩ <;> rw [h]
  · rw [portFreed_spine]
  · rw [portFreed_spine, afterRead_ownAddress]

theorem qualifyMarker_ownAddress (line : Fin 4) (now : Nat) (s : State) :
    (qualifyMarker line now s).spine.ownAddress = s.spine.ownAddress := by
  rcases qualifyMarker_cases line now s with h | ⟨_, _, noted, s₁, -, -, -, rfl, ⟨-, h⟩ | ⟨-, h⟩⟩ <;> rw [h]
  · simp [acceptMarker]
  · simp

theorem peersSound_effect (c : Instr) (s : State) (hc : resets c = false) (h : s.peersSound) :
    (effect c s).peersSound := by
  have hite {p : Prop} [Decidable p] {t : State} (ht : t.peersSound) : (if p then t else s).peersSound := by
    split <;> assumption
  have hsame := effect_sameBut c s
  have hspine (hpresence : .presence ∉ reach c) (ha : (effect c s).spine.ownAddress = s.spine.ownAddress) :
      (effect c s).peersSound := peersSound_of_same (congrArg _ (hsame .presence hpresence)) ha h
  cases c with
  | powerOn straps => exact nomatch hc
  | resetAssert => exact nomatch hc
  | resetRelease straps => exact nomatch hc
  | loadConfig record straps => exact hite (peersSound_loadConfiguration _ straps h)
  | softReset => exact hite peersSound_softReset
  | markerQualify line now => exact hspine (by simp [reach]) (qualifyMarker_ownAddress line now s)
  | blockReadComplete corrected uncorrectable =>
    exact hspine (by simp [reach]) (completeRead_ownAddress corrected uncorrectable s)
  | trailerPlace => exact peersSound_settling.takeIfDue _ s h
  | gapFramePlace => exact peersSound_settling.takeIfDue _ s h
  | dataFrameStart => exact peersSound_settling.takeIfDue _ s h
  | memoryGapPlace => exact peersSound_settling.memoryGap s h
  | unitHeaderArrival header sent =>
    refine hspine (by simp [reach]) ?_
    simp only [effect]
    split
    · rfl
    · rw [arriveHeader_ownAddress, noteSent_ownAddress]
  | unitEnd rest => exact peersSound_endUnit rest h
  | forwardingEnd arrived => exact hspine (by simp [reach]) (outputEnd_ownAddress _).1
  | noteInsertionEnd arrived => exact hspine (by simp [reach]) (outputEnd_ownAddress _).2.1
  | frameInsertionComplete arrived => exact hspine (by simp [reach]) (outputEnd_ownAddress _).2.2
  | paceTick => exact peersSound_paceTick h
  | peerStaleExpiry address => exact peersSound_judgePeer _ address h
  | peerAbsentExpiry address => exact peersSound_judgePeer _ address h
  | ingestAgeOut => exact peersSound_of_same (ageOutIngest_peers s) (ageOutIngest_ownAddress s) h
  | ringOpen => exact hspine (by simp [reach]) (openRing_ownAddress s)
  | _ => exact hspine (by simp [reach]) (congrArg _ (hsame .spine (by simp [reach])))

theorem peersSound_stepKeeps : StepKeeps State.peersSound :=
  { peersSound_settling with
    queue := fun _ _ h => h
    fresh := fun straps s => peersSound_sampleStraps straps (s := freshStation s) (peersSound_fresh rfl rfl)
    held := fun _ => peersSound_fresh rfl rfl
    lane := fun _ _ _ h => h
    report := fun before s h => peersSound_of_same (by simp) (by simp) h
    effect := fun c s hc _ h => peersSound_effect c s hc h }

/-- Settles O55: the phases move together, and the peer table stays sound. -/
theorem phasesAgreeKept : Obligations.PhasesAgreeKept :=
  ⟨fun _ _ hs h => phasesAgree_stepKeeps.step hs h, fun _ _ hs h => peersSound_stepKeeps.step hs h⟩

end Sys2Proof.Machine
end

section
/-! PROOFS. Capture memory in every step (R12, R20, R21, R23, R27, R29, R30; log 13): the held count stays within C, the refresh
debt within its bounds, and the DRAM's list canonical. -/

namespace Sys2Proof.Machine

/-! ### The held count -/

theorem heldWithin_of_same {s t : State} (hstaging : t.memory.staging = s.memory.staging)
    (hstored : t.memory.storedCount = s.memory.storedCount) (hconfig : t.station.config = s.station.config)
    (h : s.heldWithin) : t.heldWithin := by
  simp only [State.heldWithin, State.held, State.capacity, hstaging, hstored, hconfig]
  exact h

/-- A block is staged only where B is below C (R10, R12). -/
theorem held_lt_of_stage {s : State} (h : decideBlock s = .stage) : s.held < s.capacity := by
  unfold decideBlock at h
  repeat' split at h
  all_goals simp_all

theorem heldWithin_completeBlock {s : State} (h : s.heldWithin) : (completeBlock s).heldWithin := by
  have hcapacity : (completeBlock s).capacity = s.capacity := by simp [State.capacity]
  rw [State.heldWithin, State.held, hcapacity, completeBlock_memory_storedCount]
  by_cases hstage : decideBlock s = .stage
  · have hlt := held_lt_of_stage hstage
    rw [State.held] at hlt
    rw [(completeBlock_stage s hstage).1, List.length_append, List.length_singleton]
    omega
  · rw [(completeBlock_drop s hstage).1]
    exact h

theorem heldWithin_endRun {s : State} (h : s.heldWithin) : (endRun s).heldWithin := by
  have hblock : (if s.intake.point % Config.blockSamples = 0 then s else completeBlock s).heldWithin := by
    split
    · exact h
    · exact heldWithin_completeBlock h
  exact heldWithin_of_same (by simp [endRun]) (by simp [endRun]) (by simp [endRun]) hblock

theorem heldWithin_takeStop {s : State} (h : s.heldWithin) : (takeStop s).heldWithin := by
  unfold takeStop
  split
  · exact h
  · exact heldWithin_endRun h

theorem heldWithin_takeSampleSet (lanes : Vector Sample 8) {s : State} (h : s.heldWithin) :
    (takeSampleSet lanes s).heldWithin := by
  have hset : (advanceIntake lanes s).heldWithin := by
    refine heldWithin_of_same (s := if (writeSample lanes s).intake.point % Config.blockSamples = 0 then
      completeBlock (writeSample lanes s) else writeSample lanes s) (by simp [advanceIntake]) (by simp [advanceIntake])
      (by simp [advanceIntake]) ?_
    split
    · exact heldWithin_completeBlock (s := writeSample lanes s) h
    · exact h
  unfold takeSampleSet
  simp only
  split
  · exact heldWithin_endRun hset
  · split
    · exact heldWithin_endRun hset
    · exact hset

theorem heldWithin_takeStart {s : State} (h : s.heldWithin) : (takeStart s).heldWithin := by
  unfold takeStart
  split <;> exact h

/-- An unconfigured station holds no block, so any capacity holds them (R21). -/
theorem heldWithin_loadConfiguration (record : List Byte) (straps : BitVec 4) {s : State} (hphases : s.phasesAgree)
    (h : s.heldWithin) : (loadConfiguration record straps s).heldWithin := by
  unfold loadConfiguration
  split
  · next hp =>
    split
    · have hconfig : s.station.config = none := by
        have hnone := mt hphases.2.2.2.1.1 (not_not.2 hp)
        simpa using hnone
      have hempty : s.held = 0 := by
        rw [State.heldWithin, State.capacity, hconfig] at h
        exact Nat.le_zero.1 h
      have hheld : (acceptConfiguration (configurationOf record) (sampleStraps straps s)).held = s.held := by
        simp [acceptConfiguration, State.held]
      rw [State.heldWithin]
      exact Nat.le_trans (Nat.le_of_eq (hheld.trans hempty)) (Nat.zero_le _)
    · exact h
  · exact h

theorem storeHead_held (s : State) : (storeHead s).held = s.held := by
  unfold storeHead
  split
  · rfl
  · next hstaging =>
    simp only [State.held, hstaging, List.length_cons]
    omega

theorem heldWithin_completeWrite {s : State} (h : s.heldWithin) : (completeWrite s).heldWithin := by
  have hfreed {t : State} (ht : t.heldWithin) : (portFreed t).heldWithin :=
    heldWithin_of_same (by simp) (by simp) (by simp) ht
  unfold completeWrite
  split
  · exact hfreed h
  · split
    · refine hfreed ?_
      have hconfig : (storeHead s).capacity = s.capacity := by
        have hstation : (storeHead s).station = s.station := storeHead_sameBut s .station (by simp)
        simp only [State.capacity, hstation]
      rw [State.heldWithin, storeHead_held, hconfig]
      exact h
    · exact h

theorem completeData_storedCount (w : WorkingCopy) (s : State) :
    (completeData w s).memory.storedCount ≤ s.memory.storedCount := by
  refine Nat.le_trans (releaseThrough_storedCount _ _ _) ?_
  simp

theorem takeBlock_storedCount (w : WorkingCopy) (b : Block) (s : State) :
    (takeBlock w b s).memory.storedCount ≤ s.memory.storedCount := by
  unfold takeBlock
  simp only
  split
  · exact Nat.le_refl _
  · exact completeData_storedCount _ _

theorem truncateFrame_storedCount (w : WorkingCopy) (b : Block) (s : State) :
    (truncateFrame w b s).memory.storedCount ≤ s.memory.storedCount := by
  have hcomplete := completeData_storedCount { w with last := max w.first (Config.blockSamples * b.number) - 1 } s
  have hrelease (t : State) : (releaseBlock t).memory.storedCount ≤ t.memory.storedCount := Nat.sub_le _ _
  unfold truncateFrame
  simp only [considerHead_memory]
  split <;> split
  · exact Nat.le_trans (hrelease _) hcomplete
  · exact hrelease s
  · exact hcomplete
  · exact Nat.le_refl _

/-- A read leaves the Staging Buffer, and the blocks stored only fall in number (R24, R25). -/
theorem afterRead_stored (w : WorkingCopy) (slot : Nat) (x : Slot) (s : State) :
    (afterRead w slot x s).memory.staging = s.memory.staging ∧
      (afterRead w slot x s).memory.storedCount ≤ s.memory.storedCount := by
  have hcount : (countRead slot x s).memory.storedCount = s.memory.storedCount := by rw [countRead_memory]
  unfold afterRead
  split
  · exact ⟨by simp, hcount ▸ truncateFrame_storedCount w x.block _⟩
  · exact ⟨by simp, hcount ▸ takeBlock_storedCount w x.block _⟩

theorem heldWithin_completeRead (corrected : Nat) (uncorrectable : Bool) {s : State} (h : s.heldWithin) :
    (completeRead corrected uncorrectable s).heldWithin := by
  have hfreed {t : State} (ht : t.heldWithin) : (portFreed t).heldWithin :=
    heldWithin_of_same (by simp) (by simp) (by simp) ht
  rcases completeRead_cases corrected uncorrectable s with heq | ⟨-, heq⟩ | ⟨w, number, x, -, heq⟩ <;> rw [heq]
  · exact h
  · exact hfreed h
  · obtain ⟨hstaging, hstored⟩ := afterRead_stored w (s.readSlot w number) (x.found corrected uncorrectable) s
    have hstation := afterRead_sameBut w (s.readSlot w number) (x.found corrected uncorrectable) s .station (by simp)
    refine hfreed ?_
    simp only [State.heldWithin, State.held, State.capacity, hstaging, show (afterRead w (s.readSlot w number)
      (x.found corrected uncorrectable) s).station = s.station from hstation] at h ⊢
    omega

theorem heldWithin_settling : SettlingKeeps State.heldWithin where
  memoryGap s h := heldWithin_of_same (by simp) (by simp) (by simp) h
  due due s _ h := heldWithin_of_same (by simp) (by simp) (by simp) h
  flush s h := heldWithin_of_same (by simp) (by simp) (by simp) h

theorem completeRefresh_ring (s : State) : (completeRefresh s).memory.staging = s.memory.staging ∧
    (completeRefresh s).memory.storedCount = s.memory.storedCount := by
  unfold completeRefresh
  repeat' split
  all_goals simp

theorem refreshExpired_ring (s : State) : (refreshExpired s).memory.staging = s.memory.staging ∧
    (refreshExpired s).memory.storedCount = s.memory.storedCount := by
  unfold refreshExpired
  split
  · exact ⟨rfl, rfl⟩
  · split <;> simp

theorem heldWithin_effect (c : Instr) (s : State) (hc : resets c = false) (hphases : s.phasesAgree) (h : s.heldWithin) :
    (effect c s).heldWithin := by
  have hite {p : Prop} [Decidable p] {t : State} (ht : t.heldWithin) : (if p then t else s).heldWithin := by
    split <;> assumption
  have hsame := effect_sameBut c s
  cases c with
  | powerOn straps => exact nomatch hc
  | resetAssert => exact nomatch hc
  | resetRelease straps => exact nomatch hc
  | loadConfig record straps => exact hite (heldWithin_loadConfiguration _ straps hphases h)
  | stopRun =>
    refine hite ?_
    split
    · exact heldWithin_takeStop h
    · exact h
  | softReset => exact hite (Nat.zero_le _)
  | sampleSetTaken lanes => exact hite (heldWithin_takeSampleSet lanes h)
  | startEdge => exact heldWithin_takeStart h
  | stopEdge => exact hite (heldWithin_takeStop h)
  | blockWriteComplete => exact heldWithin_completeWrite h
  | blockReadComplete corrected uncorrectable => exact heldWithin_completeRead corrected uncorrectable h
  | refreshComplete =>
    have hstation := hsame .station (by simp [reach])
    exact heldWithin_of_same (completeRefresh_ring s).1 (completeRefresh_ring s).2 (congrArg _ hstation) h
  | refreshExpiry =>
    have hstation := hsame .station (by simp [reach])
    exact heldWithin_of_same (refreshExpired_ring s).1 (refreshExpired_ring s).2 (congrArg _ hstation) h
  | thermalReading celsius => exact h
  | trailerPlace => exact heldWithin_settling.takeIfDue _ s h
  | gapFramePlace => exact heldWithin_settling.takeIfDue _ s h
  | dataFrameStart => exact heldWithin_settling.takeIfDue _ s h
  | unitEnd rest =>
    have hmemory := hsame .memory (by simp [reach])
    refine heldWithin_of_same (congrArg _ hmemory) (congrArg _ hmemory) ?_ h
    rcases endUnit_staysOrJoins rest s with hstation | ⟨-, hstation⟩
    · exact congrArg _ hstation
    · show (endUnit rest s).station.config = s.station.config
      rw [hstation]
  | flushComplete => exact heldWithin_settling.flush s h
  | _ =>
    have hmemory := hsame .memory (by simp [reach])
    exact heldWithin_of_same (congrArg _ hmemory) (congrArg _ hmemory) (congrArg _ (hsame .station (by simp [reach]))) h

theorem heldWithin_stepKeeps : StepKeeps fun s => s.phasesAgree ∧ s.heldWithin where
  memoryGap s h := ⟨phasesAgree_settling.memoryGap s h.1, heldWithin_settling.memoryGap s h.2⟩
  due due s hdue h := ⟨phasesAgree_settling.due due s hdue h.1, heldWithin_settling.due due s hdue h.2⟩
  flush s h := ⟨phasesAgree_settling.flush s h.1, heldWithin_settling.flush s h.2⟩
  queue _ _ h := h
  fresh straps s := ⟨phasesAgree_stepKeeps.fresh straps s, Nat.zero_le _⟩
  held s := ⟨phasesAgree_stepKeeps.held s, Nat.zero_le _⟩
  lane _ _ _ h := h
  report before s h := ⟨phasesAgree_stepKeeps.report before s h.1, heldWithin_of_same (by simp) (by simp) (by simp) h.2⟩
  effect c s hc hr h := ⟨phasesAgree_effect c s hc hr h.1, heldWithin_effect c s hc h.1 h.2⟩

/-! ### The refresh debt -/

theorem owedWithin_of_same {s t : State} (hmemory : t.memory = s.memory) (h : s.owedWithin) : t.owedWithin := by
  rw [State.owedWithin, hmemory]
  exact h

/-- With the debt in its bounds, what is in progress beside a refresh does not matter. -/
theorem owedWithin_of_not_refreshing {s : State} (hlow : -8 ≤ s.memory.owed) (hhigh : s.memory.owed ≤ 8)
    (hop : s.memory.refreshing = false) : s.owedWithin := ⟨hlow, hhigh, by simp [hop]⟩

/-- A grant starts a refresh only above -8 (R27, R30). -/
theorem owedWithin_grantPort {s : State} (h : s.owedWithin) : (grantPort s).owedWithin := by
  by_cases hfree : s.memory.selfRefresh = false ∧ s.memory.op = none
  · obtain ⟨hlow, hhigh, -⟩ := h
    rw [State.owedWithin, grantPort_memory_owed]
    refine ⟨hlow, hhigh, fun hrefreshing => ?_⟩
    rw [CaptureMemory.refreshing, grantPort_op s hfree] at hrefreshing
    cases hchoice : portChoice s.memory with
    | none => simp [hchoice] at hrefreshing
    | some op =>
      rw [hchoice] at hrefreshing
      cases op with
      | refresh form => exact portChoice_refresh s.memory form hchoice
      | write => simp [PortOp.isRefresh] at hrefreshing
      | read => simp [PortOp.isRefresh] at hrefreshing
  · rw [grantPort_busy s hfree]
    exact h

theorem owedWithin_portFreed {s : State} (hlow : -8 ≤ s.memory.owed) (hhigh : s.memory.owed ≤ 8) :
    (portFreed s).owedWithin := by
  unfold portFreed
  split
  · exact owedWithin_of_not_refreshing hlow hhigh rfl
  · exact owedWithin_grantPort (owedWithin_of_not_refreshing hlow hhigh rfl)

theorem owedWithin_completeBlock {s : State} (h : s.owedWithin) : (completeBlock s).owedWithin := by
  have hstage (b : Block) {t : State} (ht : t.owedWithin) : (stageBlock b t).owedWithin := owedWithin_grantPort ht
  unfold completeBlock
  refine owedWithin_of_same (report_memory _ _) ?_
  split
  · exact h
  · exact h
  · exact hstage _ h

theorem owedWithin_endRun {s : State} (h : s.owedWithin) : (endRun s).owedWithin := by
  refine owedWithin_of_same (segmentRunEnd_memory _) ?_
  simp only
  split
  · exact h
  · exact owedWithin_completeBlock h

theorem owedWithin_takeStop {s : State} (h : s.owedWithin) : (takeStop s).owedWithin := by
  unfold takeStop
  split
  · exact h
  · exact owedWithin_endRun h

theorem owedWithin_takeSampleSet (lanes : Vector Sample 8) {s : State} (h : s.owedWithin) :
    (takeSampleSet lanes s).owedWithin := by
  have hset : (advanceIntake lanes s).owedWithin := by
    refine owedWithin_of_same (considerHead_memory _) ?_
    split
    · exact owedWithin_completeBlock h
    · exact h
  unfold takeSampleSet
  simp only
  split
  · exact owedWithin_endRun hset
  · split
    · exact owedWithin_endRun hset
    · exact hset

theorem owedWithin_loadConfiguration (record : List Byte) (straps : BitVec 4) {s : State} (h : s.owedWithin) :
    (loadConfiguration record straps s).owedWithin := by
  unfold loadConfiguration
  split
  · split
    · refine owedWithin_of_same (arbitrate_memory _) (owedWithin_grantPort ?_)
      exact ⟨(by decide : (-8 : Int) ≤ 0), (by decide : (0 : Int) ≤ 8), fun _ => (by decide : (-8 : Int) < 0)⟩
    · exact h
  · exact h

theorem owedWithin_softReset (s : State) : (softResetStation s).owedWithin := by
  refine owedWithin_of_not_refreshing (by decide : (-8 : Int) ≤ 0) (by decide : (0 : Int) ≤ 8) ?_
  cases hop : s.memory.op <;> simp [softResetStation, CaptureMemory.softReset, CaptureMemory.refreshing, hop]

theorem storeHead_owed (s : State) : (storeHead s).memory.owed = s.memory.owed := by
  unfold storeHead
  split <;> rfl

theorem owedWithin_completeWrite {s : State} (h : s.owedWithin) : (completeWrite s).owedWithin := by
  obtain ⟨hlow, hhigh, hop⟩ := h
  unfold completeWrite
  split
  · exact owedWithin_portFreed hlow hhigh
  · split
    · rw [← storeHead_owed s] at hlow hhigh
      exact owedWithin_portFreed hlow hhigh
    · exact ⟨hlow, hhigh, hop⟩

theorem afterRead_owed (w : WorkingCopy) (slot : Nat) (x : Slot) (s : State) :
    (afterRead w slot x s).memory.owed = s.memory.owed := by
  unfold afterRead
  split <;> simp

theorem owedWithin_completeRead (corrected : Nat) (uncorrectable : Bool) {s : State} (h : s.owedWithin) :
    (completeRead corrected uncorrectable s).owedWithin := by
  obtain ⟨hlow, hhigh, hop⟩ := h
  rcases completeRead_cases corrected uncorrectable s with heq | ⟨-, heq⟩ | ⟨w, number, x, -, heq⟩ <;> rw [heq]
  · exact ⟨hlow, hhigh, hop⟩
  · exact owedWithin_portFreed hlow hhigh
  · rw [← afterRead_owed w (s.readSlot w number) (x.found corrected uncorrectable) s] at hlow hhigh
    exact owedWithin_portFreed hlow hhigh

theorem refreshing_of_current {m : CaptureMemory} (h : m.current.any PortOp.isRefresh = true) : m.refreshing = true := by
  unfold CaptureMemory.current at h
  unfold CaptureMemory.refreshing
  split at h
  · split at h <;> simp_all
  · simp at h

/-- A refresh in progress finds the debt above -8, so its completion leaves it in its bounds (R30). -/
theorem owedWithin_completeRefresh {s : State} (h : s.owedWithin) : (completeRefresh s).owedWithin := by
  obtain ⟨hlow, hhigh, hop⟩ := h
  unfold completeRefresh
  split
  · exact owedWithin_portFreed hlow hhigh
  · split
    · next hcurrent =>
      have habove := hop (refreshing_of_current hcurrent)
      refine owedWithin_portFreed ?_ ?_ <;> simp only <;> omega
    · exact ⟨hlow, hhigh, hop⟩

theorem owedWithin_refreshExpired {s : State} (h : s.owedWithin) : (refreshExpired s).owedWithin := by
  unfold refreshExpired
  split
  · exact h
  · split
    · exact h
    · next hlate =>
      obtain ⟨hlow, hhigh, hop⟩ := h
      refine owedWithin_grantPort ⟨?_, ?_, fun _ => ?_⟩ <;> simp only <;> omega

theorem owedWithin_takeDueFrame (due : DueFrame) {s : State} (h : s.owedWithin) : (takeDueFrame due s).owedWithin := by
  cases due with
  | trailer head => exact owedWithin_of_same (placeTrailer_memory s head) h
  | gap head e => exact owedWithin_of_same (placeGap_memory s head e) h
  | data head last =>
    refine owedWithin_of_same (considerHead_memory _) (owedWithin_grantPort ?_)
    exact h

theorem owedWithin_settling : SettlingKeeps State.owedWithin where
  memoryGap s h := owedWithin_of_same (placeMemoryGap_memory s) h
  due due _ _ h := owedWithin_takeDueFrame due h
  flush s h := owedWithin_of_same (completeFlush_memory s) h

theorem owedWithin_takeStart {s : State} (h : s.owedWithin) : (takeStart s).owedWithin := by
  unfold takeStart
  split <;> exact h

theorem owedWithin_effect (c : Instr) (s : State) (hc : resets c = false) (h : s.owedWithin) :
    (effect c s).owedWithin := by
  have hite {p : Prop} [Decidable p] {t : State} (ht : t.owedWithin) : (if p then t else s).owedWithin := by
    split <;> assumption
  have hsame := effect_sameBut c s
  cases c with
  | powerOn straps => exact nomatch hc
  | resetAssert => exact nomatch hc
  | resetRelease straps => exact nomatch hc
  | loadConfig record straps => exact hite (owedWithin_loadConfiguration _ straps h)
  | stopRun =>
    refine hite ?_
    split
    · exact owedWithin_takeStop h
    · exact h
  | softReset => exact hite (owedWithin_softReset s)
  | sampleSetTaken lanes => exact hite (owedWithin_takeSampleSet lanes h)
  | startEdge => exact owedWithin_takeStart h
  | stopEdge => exact hite (owedWithin_takeStop h)
  | blockWriteComplete => exact owedWithin_completeWrite h
  | blockReadComplete corrected uncorrectable => exact owedWithin_completeRead corrected uncorrectable h
  | refreshComplete => exact owedWithin_completeRefresh h
  | refreshExpiry => exact owedWithin_refreshExpired h
  | thermalReading celsius => exact h
  | trailerPlace => exact owedWithin_settling.takeIfDue _ s h
  | gapFramePlace => exact owedWithin_settling.takeIfDue _ s h
  | dataFrameStart => exact owedWithin_settling.takeIfDue _ s h
  | _ => exact owedWithin_of_same (hsame .memory (by simp [reach])) h

theorem owedWithin_stepKeeps : StepKeeps State.owedWithin :=
  { owedWithin_settling with
    queue := fun _ _ h => h
    fresh := fun _ _ => owedWithin_of_not_refreshing (by decide : (-8 : Int) ≤ 0) (by decide : (0 : Int) ≤ 8) rfl
    held := fun _ => owedWithin_of_not_refreshing (by decide : (-8 : Int) ≤ 0) (by decide : (0 : Int) ≤ 8) rfl
    lane := fun _ _ _ h => h
    report := fun before s h => owedWithin_of_same (report_memory before s) h
    effect := fun c s hc _ h => owedWithin_effect c s hc h }

/-! ### The DRAM's list -/

/-- The DRAM's list is canonical (log 13). -/
def State.dramCanonical (s : State) : Prop := Memory.wf s.memory.dram = true

theorem dramCanonical_of_same {s t : State} (h : t.memory.dram = s.memory.dram) (hs : s.dramCanonical) :
    t.dramCanonical := by
  rw [State.dramCanonical, h]
  exact hs

theorem dramCanonical_completeWrite {s : State} (h : s.dramCanonical) : (completeWrite s).dramCanonical := by
  have hstore : (storeHead s).dramCanonical := by
    unfold storeHead
    split
    · exact h
    · exact dramWrite_wf _ _ _ h
  unfold completeWrite
  split
  · exact dramCanonical_of_same (by simp) h
  · split
    · exact dramCanonical_of_same (by simp) hstore
    · exact h

theorem afterRead_dram (w : WorkingCopy) (slot : Nat) (x : Slot) (s : State) :
    (afterRead w slot x s).memory.dram = dramWrite slot x s.memory.dram := by
  unfold afterRead
  split <;> simp

theorem dramCanonical_completeRead (corrected : Nat) (uncorrectable : Bool) {s : State} (h : s.dramCanonical) :
    (completeRead corrected uncorrectable s).dramCanonical := by
  rcases completeRead_cases corrected uncorrectable s with heq | ⟨-, heq⟩ | ⟨w, number, x, -, heq⟩ <;> rw [heq]
  · exact h
  · exact dramCanonical_of_same (by simp) h
  · rw [State.dramCanonical, portFreed_memory_dram, afterRead_dram]
    exact dramWrite_wf _ _ _ h

theorem dramCanonical_settling : SettlingKeeps State.dramCanonical where
  memoryGap s h := dramCanonical_of_same (by simp) h
  due due s _ h := dramCanonical_of_same (by simp) h
  flush s h := dramCanonical_of_same (by simp) h

theorem dramCanonical_takeStop {s : State} (h : s.dramCanonical) : (takeStop s).dramCanonical := by
  unfold takeStop
  split
  · exact h
  · exact dramCanonical_of_same (by simp) h

theorem dramCanonical_effect (c : Instr) (s : State) (hc : resets c = false) (h : s.dramCanonical) :
    (effect c s).dramCanonical := by
  have hite {p : Prop} [Decidable p] {t : State} (ht : t.dramCanonical) : (if p then t else s).dramCanonical := by
    split <;> assumption
  have hsame := effect_sameBut c s
  cases c with
  | powerOn straps => exact nomatch hc
  | resetAssert => exact nomatch hc
  | resetRelease straps => exact nomatch hc
  | loadConfig record straps =>
    refine hite ?_
    unfold loadConfiguration
    simp only
    split
    · split
      · exact dramCanonical_of_same (by simp [acceptConfiguration]) h
      · exact h
    · exact h
  | stopRun =>
    refine hite ?_
    split
    · exact dramCanonical_takeStop h
    · exact h
  | softReset => exact hite wf_empty
  | sampleSetTaken lanes => exact hite (dramCanonical_of_same (by simp) h)
  | startEdge =>
    simp only [effect, takeStart]
    split <;> exact h
  | stopEdge => exact hite (dramCanonical_takeStop h)
  | blockWriteComplete => exact dramCanonical_completeWrite h
  | blockReadComplete corrected uncorrectable => exact dramCanonical_completeRead corrected uncorrectable h
  | refreshComplete =>
    simp only [effect, completeRefresh]
    repeat' split
    all_goals exact dramCanonical_of_same (by simp) h
  | refreshExpiry =>
    simp only [effect, refreshExpired]
    repeat' split
    all_goals exact dramCanonical_of_same (by simp) h
  | thermalReading celsius => exact h
  | trailerPlace => exact dramCanonical_settling.takeIfDue _ s h
  | gapFramePlace => exact dramCanonical_settling.takeIfDue _ s h
  | dataFrameStart => exact dramCanonical_settling.takeIfDue _ s h
  | _ => exact dramCanonical_of_same (congrArg _ (hsame .memory (by simp [reach]))) h

theorem dramCanonical_stepKeeps : StepKeeps State.dramCanonical :=
  { dramCanonical_settling with
    queue := fun _ _ h => h
    fresh := fun _ _ => wf_empty
    held := fun _ => wf_empty
    lane := fun _ _ _ h => h
    report := fun before s h => dramCanonical_of_same (by simp) h
    effect := fun c s hc _ h => dramCanonical_effect c s hc h }

/-- Settles O56: a block is staged only below C, a refresh started only above -8, and every write keeps the list's order. -/
theorem memoryKept : Obligations.MemoryKept :=
  ⟨fun _ _ hphases hs h => (heldWithin_stepKeeps.step ⟨hphases, hs⟩ h).2, fun _ _ hs h => owedWithin_stepKeeps.step hs h,
    fun _ _ hs h => dramCanonical_stepKeeps.step hs h⟩

end Sys2Proof.Machine
end

section
/-! PROOFS. The segments in every step (R73, R74, R78, R79, R81): what a step makes of the live segments keeps them tiling the
run, with the newest OPEN exactly in RUN. -/

namespace Sys2Proof.Machine

/-! ### Tilings -/

/-- Where a segment begins and ends, all that a tiling speaks of. -/
def Segment.extent (g : Segment) : Nat × Option Nat := (g.start, g.ending)

theorem segmentsTile_congr : ∀ {l l' : List Segment}, l.map Segment.extent = l'.map Segment.extent →
    segmentsTile l = segmentsTile l'
  | [], [], _ => rfl
  | [_], [_], _ => rfl
  | g :: h :: rest, g' :: h' :: rest', hext => by
    obtain ⟨hg, hh, -⟩ : g.extent = g'.extent ∧ h.extent = h'.extent ∧ _ := by simpa using hext
    have htail : segmentsTile (h :: rest) = segmentsTile (h' :: rest') := segmentsTile_congr (List.cons.inj hext).2
    obtain ⟨hstart, hending⟩ := Prod.mk.inj hg
    obtain ⟨hnext, -⟩ := Prod.mk.inj hh
    rw [segmentsTile, segmentsTile, htail, hstart, hending, hnext]
  | [], _ :: _, hext => by simp at hext
  | _ :: _, [], hext => by simp at hext
  | [_], _ :: _ :: _, hext => by simp at hext
  | _ :: _ :: _, [_], hext => by simp at hext

/-- The end of the last segment is free. -/
theorem segmentsTile_snoc_congr {before : List Segment} {g g' : Segment} (hstart : g.start = g'.start) :
    segmentsTile (before ++ [g]) = segmentsTile (before ++ [g']) := by
  induction before with
  | nil => rfl
  | cons h rest ih =>
    cases rest with
    | nil => simp [segmentsTile, hstart]
    | cons k rest =>
      simp only [List.cons_append, segmentsTile] at ih ⊢
      rw [ih]

theorem segmentsTile_snoc_snoc (before : List Segment) (g h : Segment) :
    segmentsTile (before ++ [g] ++ [h]) = true ↔
      segmentsTile (before ++ [g]) = true ∧ g.start < h.start ∧ g.ending = some (h.start - 1) := by
  induction before with
  | nil => simp [segmentsTile]
  | cons k rest ih =>
    cases rest with
    | nil => simp [segmentsTile, and_assoc]
    | cons m rest =>
      simp only [List.cons_append, segmentsTile, Bool.and_eq_true] at ih ⊢
      rw [ih]
      tauto

theorem segmentsTile_tail : ∀ {l : List Segment}, segmentsTile l = true → segmentsTile l.tail = true
  | [], h => h
  | [_], _ => rfl
  | _ :: _ :: _, h => (Bool.and_eq_true _ _ ▸ h).2

/-- Every segment but the last ends where the next one begins. -/
theorem all_closed_of_tile {before : List Segment} {g : Segment} (h : segmentsTile (before ++ [g]) = true) :
    (before.all fun k => k.ending.isSome) = true := by
  induction before with
  | nil => rfl
  | cons k rest ih =>
    have htail := ih (segmentsTile_tail h)
    cases rest with
    | nil => simp_all [segmentsTile]
    | cons m rest => simp_all [segmentsTile]

/-! ### The invariant by the newest segment -/

theorem segmentsSound_nil {s : State} (hl : s.table.live = []) : s.segmentsSound ↔ s.station.phase ≠ .run := by
  simp [State.segmentsSound, hl, segmentsTile]

theorem segmentsSound_snoc {s : State} {before : List Segment} {last : Segment} (hl : s.table.live = before ++ [last]) :
    s.segmentsSound ↔
      segmentsTile (before ++ [last]) = true ∧ (s.station.phase = .run ↔ last.ending = none) := by
  rw [State.segmentsSound, hl]
  by_cases hrun : s.station.phase = .run <;>
    simp only [hrun, not_true_eq_false, not_false_eq_true, forall_const, List.getLast?_concat, Option.any_some, true_and,
      ne_eq, Option.isNone_iff_eq_none, true_iff, false_iff, IsEmpty.forall_iff, and_true]
  refine and_congr_right fun htile => ?_
  simp [all_closed_of_tile htile, Option.isSome_iff_ne_none]

theorem segmentsSound_of_extents {s t : State} (hrun : t.station.phase = .run ↔ s.station.phase = .run)
    (hext : t.table.live.map Segment.extent = s.table.live.map Segment.extent) (h : s.segmentsSound) :
    t.segmentsSound := by
  rcases List.eq_nil_or_concat s.table.live with hl | ⟨before, last, hl⟩
  · rw [segmentsSound_nil hl] at h
    rw [hl, List.map_nil, List.map_eq_nil_iff] at hext
    exact (segmentsSound_nil hext).2 (hrun.not.2 h)
  · rw [List.concat_eq_append] at hl
    obtain ⟨htile, hlast⟩ := (segmentsSound_snoc hl).1 h
    rw [hl] at hext
    rw [← segmentsTile_congr hext] at htile
    rw [List.map_append, List.map_eq_append_iff] at hext
    obtain ⟨before', rest, hl', -, hrest⟩ := hext
    rw [List.map_singleton, List.map_eq_singleton_iff] at hrest
    obtain ⟨last', rfl, hextent⟩ := hrest
    rw [hl'] at htile
    have hending : last'.ending = last.ending := congrArg Prod.snd hextent
    exact (segmentsSound_snoc hl').2 ⟨htile, by rw [hrun, hlast, hending]⟩

theorem segmentsSound_of_table {s t : State} (hrun : t.station.phase = .run ↔ s.station.phase = .run)
    (htable : t.table = s.table) (h : s.segmentsSound) : t.segmentsSound :=
  segmentsSound_of_extents hrun (by rw [htable]) h

theorem segmentsSound_of_same {s t : State} (hphase : t.station.phase = s.station.phase)
    (htable : t.table = s.table) (h : s.segmentsSound) : t.segmentsSound :=
  segmentsSound_of_table (by rw [hphase]) htable h

theorem map_extent_mapLast {f : Segment → Segment} (hf : ∀ g, (f g).extent = g.extent) (l : List Segment) :
    (mapLast f l).map Segment.extent = l.map Segment.extent := by
  fun_induction mapLast f l <;> simp_all

theorem map_extent_mapHead {f : Segment → Segment} (hf : ∀ g, (f g).extent = g.extent) (l : List Segment) :
    (mapHead f l).map Segment.extent = l.map Segment.extent := by
  cases l <;> simp [mapHead, hf]

/-! ### The Boundary Queue -/

theorem absorbRequest_live (coincident : Bool) (s : State) :
    (absorbRequest coincident s).table.live =
      mapLast (fun g => { g with absorbed := satAdd Config.counter16 g.absorbed 1 }) s.table.live := by
  unfold absorbRequest
  simp only
  split <;> rfl

theorem applyRequest_live (r : Request) (start : Nat) (s : State) :
    (applyRequest r start s).table.live =
      mapLast (fun g => { g with ending := some (start - 1) }) s.table.live ++
        [openedSegment r start (if s.station.phase = .run then none else some (s.limit - 1))] := by
  unfold applyRequest
  simp only
  split <;> rfl

/-- A request is applied past the start of the last segment (R72). -/
theorem judgeRequest_applied {s : State} {r : Request} {start : Nat} (h : judgeRequest s r = .applied start) :
    ∃ before last, s.table.live = before ++ [last] ∧ last.start < start ∧ start < s.limit ∧
      s.table.live.length < Config.liveSegments ∧ start = clampedIndex last.start s.assembler.drain r.index := by
  unfold judgeRequest at h
  split at h
  · exact nomatch h
  · next last hlast =>
    obtain ⟨before, hl⟩ := List.getLast?_eq_some_iff.1 hlast
    have hclamped : last.start ≤ clampedIndex last.start s.assembler.drain r.index :=
      Nat.le_trans (Nat.le_max_left _ _) (Nat.le_max_right _ _)
    simp only at h
    split at h
    · exact nomatch h
    · next hne =>
      split at h
      · split at h <;> exact nomatch h
      · next hlimit =>
        split at h
        · exact nomatch h
        · next hroom =>
          obtain rfl := Judgement.applied.inj h
          exact ⟨before, last, hl, by omega, by omega, by omega, rfl⟩

theorem segmentsSound_absorbRequest (coincident : Bool) {s : State} (h : s.segmentsSound) :
    (absorbRequest coincident s).segmentsSound :=
  segmentsSound_of_extents (by simp) (by
    rw [absorbRequest_live]
    refine map_extent_mapLast ?_ _
    exact fun _ => rfl) h

theorem segmentsSound_applyRequest {r : Request} {start : Nat} {s : State} (hj : judgeRequest s r = .applied start)
    (h : s.segmentsSound) : (applyRequest r start s).segmentsSound := by
  obtain ⟨before, last, hl, hstart, -⟩ := judgeRequest_applied hj
  obtain ⟨htile, -⟩ := (segmentsSound_snoc hl).1 h
  have hlive := applyRequest_live r start s
  rw [hl, mapLast_snoc] at hlive
  refine (segmentsSound_snoc hlive).2 ⟨?_, ?_⟩
  · rw [segmentsTile_snoc_snoc]
    refine ⟨(segmentsTile_snoc_congr ?_).trans htile, hstart, rfl⟩
    rfl
  · by_cases hrun : s.station.phase = .run <;> simp [openedSegment, hrun]

theorem segmentsSound_considerRequests (queue : List Request) {s : State} (h : s.segmentsSound) :
    (considerRequests queue s).segmentsSound := by
  induction queue generalizing s with
  | nil => exact h
  | cons r rest ih =>
    rw [considerRequests_cons]
    split
    · exact h
    · exact ih (segmentsSound_absorbRequest _ h)
    · next hj => exact ih (segmentsSound_applyRequest hj h)

theorem segmentsSound_considerHead {s : State} (h : s.segmentsSound) : (considerHead s).segmentsSound :=
  segmentsSound_considerRequests _ h

theorem segmentsSound_arriveRequest (r : Request) {s : State} (h : s.segmentsSound) :
    (arriveRequest r s).segmentsSound := by
  unfold arriveRequest
  split
  · exact h
  · split
    · exact segmentsSound_absorbRequest _ h
    · simp only
      split
      · exact segmentsSound_considerHead h
      · exact h

/-! ### Frames and retirement -/

theorem segmentsSound_onHeadSegment {f : Segment → Segment} (hf : ∀ g, (f g).extent = g.extent) {s : State}
    (h : s.segmentsSound) : (onHeadSegment f s).segmentsSound :=
  segmentsSound_of_extents (s := s) (t := onHeadSegment f s) Iff.rfl (map_extent_mapHead hf _) h

theorem countGap_extent (k : Nat) (g : Segment) : (g.countGap k).extent = g.extent := rfl

theorem countData_extent (level : Level) (g : Segment) : (g.countData level).extent = g.extent := rfl

/-- In RUN a CLOSED head segment has a newer one behind it. -/
theorem segmentsSound_retireHead {head : Segment} {rest : List Segment} {s : State} (hl : s.table.live = head :: rest)
    (hclosed : head.ending ≠ none) (h : s.segmentsSound) : (retireHead s).segmentsSound := by
  rcases List.eq_nil_or_concat rest with rfl | ⟨before, last, hrest⟩
  · have hnotRun : s.station.phase ≠ .run := fun hrun => hclosed (((segmentsSound_snoc (before := []) hl).1 h).2.1 hrun)
    exact (segmentsSound_nil (by simp [hl])).2 hnotRun
  · rw [List.concat_eq_append] at hrest
    subst hrest
    obtain ⟨htile, hlast⟩ := (segmentsSound_snoc (before := head :: before) hl).1 h
    exact (segmentsSound_snoc (before := before) (by simp [hl])).2 ⟨segmentsTile_tail htile, hlast⟩

/-- The frame that is due is a TRAILER of a CLOSED head segment (R94). -/
theorem chooseFrame_trailer {s : State} {head : Segment} (h : chooseFrame s = some (.trailer head)) :
    ∃ rest, s.table.live = head :: rest ∧ trailerDue s head = true := by
  unfold chooseFrame at h
  split at h
  · exact nomatch h
  · next g rest hl =>
    split at h
    · split at h
      · next hdue =>
        obtain rfl := DueFrame.trailer.inj (Option.some.inj h)
        exact ⟨rest, hl, hdue⟩
      · split at h <;> simp at h
    · exact nomatch h

theorem segmentsSound_takeDueFrame {due : DueFrame} {s : State} (hdue : chooseFrame s = some due)
    (h : s.segmentsSound) : (takeDueFrame due s).segmentsSound := by
  cases due with
  | trailer head =>
    obtain ⟨rest, hl, htrailer⟩ := chooseFrame_trailer hdue
    have hclosed : head.ending ≠ none := fun hopen => by simp [trailerDue, hopen] at htrailer
    refine segmentsSound_retireHead (s := placeFrame head.origin head.seq (trailerBody head) s) (by simpa using hl) hclosed ?_
    exact segmentsSound_of_same (by simp) (by simp) h
  | gap head e =>
    refine segmentsSound_considerHead (segmentsSound_onHeadSegment (countGap_extent _) ?_)
    exact segmentsSound_of_same (by simp) (by simp) h
  | data head last =>
    exact segmentsSound_considerHead (segmentsSound_of_same (by simp) (by simp) h)

theorem segmentsSound_placeMemoryGap {s : State} (h : s.segmentsSound) : (placeMemoryGap s).segmentsSound := by
  unfold placeMemoryGap
  split
  · split
    · exact segmentsSound_onHeadSegment (countGap_extent _) (segmentsSound_of_same (by simp) (by simp) h)
    · exact h
  · exact h
  · exact h

theorem segmentsSound_completeFlush {s : State} (h : s.segmentsSound) : (completeFlush s).segmentsSound := by
  unfold completeFlush
  split
  · next hflush => exact segmentsSound_of_table (s := s) (by simp [hflush.1]) rfl h
  · exact h

theorem segmentsSound_settling : SettlingKeeps State.segmentsSound where
  memoryGap _ h := segmentsSound_placeMemoryGap h
  due _ _ hdue h := segmentsSound_takeDueFrame hdue h
  flush _ h := segmentsSound_completeFlush h

/-! ### Reads -/

theorem segmentsSound_completeData (w : WorkingCopy) {s : State} (h : s.segmentsSound) :
    (completeData w s).segmentsSound :=
  segmentsSound_onHeadSegment (countData_extent _) (segmentsSound_of_same (by simp) (by simp) h)

theorem segmentsSound_takeBlock (w : WorkingCopy) (b : Block) {s : State} (h : s.segmentsSound) :
    (takeBlock w b s).segmentsSound := by
  unfold takeBlock
  simp only
  split
  · exact h
  · exact segmentsSound_completeData _ h

theorem segmentsSound_truncateFrame (w : WorkingCopy) (b : Block) {s : State} (h : s.segmentsSound) :
    (truncateFrame w b s).segmentsSound := by
  have hcut (p : Prop) [Decidable p] (w' : WorkingCopy) : (if p then completeData w' s else s).segmentsSound := by
    split
    · exact segmentsSound_completeData _ h
    · exact h
  have hrelease (p : Prop) [Decidable p] {t : State} (ht : t.segmentsSound) :
      (if p then releaseBlock t else t).segmentsSound := by
    split <;> exact ht
  exact segmentsSound_considerHead (segmentsSound_of_same rfl rfl (hrelease _ (hcut _ _)))

theorem segmentsSound_completeRead (corrected : Nat) (uncorrectable : Bool) {s : State} (h : s.segmentsSound) :
    (completeRead corrected uncorrectable s).segmentsSound := by
  have hfreed {t : State} (ht : t.segmentsSound) : (portFreed t).segmentsSound :=
    segmentsSound_of_same (by simp) (by simp) ht
  rcases completeRead_cases corrected uncorrectable s with heq | ⟨-, heq⟩ | ⟨w, number, x, -, heq⟩ <;> rw [heq]
  · exact h
  · exact hfreed h
  · have hcount : (countRead (s.readSlot w number) (x.found corrected uncorrectable) s).segmentsSound := by
      have hsame := countRead_sameBut (s.readSlot w number) (x.found corrected uncorrectable) s
      exact segmentsSound_of_same (congrArg _ (hsame .station (by simp))) (hsame .table (by simp)) h
    refine hfreed ?_
    unfold afterRead
    split
    · exact segmentsSound_truncateFrame _ _ hcount
    · exact segmentsSound_takeBlock _ _ hcount

/-! ### The run's start and end -/

theorem segmentsSound_takeStart {s : State} (h : s.segmentsSound) : (takeStart s).segmentsSound := by
  have hbegun (t : State) : (beginRun t).segmentsSound :=
    (segmentsSound_snoc (s := beginRun t) (before := []) rfl).2 ⟨rfl, by simp [beginRun]⟩
  unfold takeStart
  split
  · exact hbegun _
  · exact hbegun _
  · exact hbegun _
  · exact h
  · exact h
  · exact h

/-- The OPEN segment is closed, so that all are. -/
theorem segmentsSound_segmentRunEnd {s : State} (htile : segmentsTile s.table.live = true)
    (hrun : s.station.phase ≠ .run) : (segmentRunEnd s).segmentsSound := by
  refine segmentsSound_considerHead ?_
  rcases List.eq_nil_or_concat s.table.live with hl | ⟨before, last, hl⟩
  · exact (segmentsSound_nil (by simp [hl, mapLast])).2 hrun
  · rw [List.concat_eq_append] at hl
    rw [hl] at htile
    refine (segmentsSound_snoc (by simp only [hl, mapLast_snoc]; rfl)).2 ⟨(segmentsTile_snoc_congr ?_).trans htile, ?_⟩
    · split <;> rfl
    · refine iff_of_false hrun ?_
      cases hending : last.ending <;> simp [hending]

theorem segmentsSound_endRun {s : State} (h : s.segmentsSound) : (endRun s).segmentsSound := by
  refine segmentsSound_segmentRunEnd ?_ (by simp)
  have htable : (if s.intake.point % Config.blockSamples = 0 then s else completeBlock s).table = s.table := by
    split <;> simp
  simp only [htable]
  exact h.1

theorem segmentsSound_takeStop {s : State} (h : s.segmentsSound) : (takeStop s).segmentsSound := by
  unfold takeStop
  split
  · exact h
  · exact segmentsSound_endRun h

theorem segmentsSound_takeSampleSet (lanes : Vector Sample 8) {s : State} (h : s.segmentsSound) :
    (takeSampleSet lanes s).segmentsSound := by
  have hset : (advanceIntake lanes s).segmentsSound := by
    refine segmentsSound_considerHead ?_
    split
    · exact segmentsSound_of_same (by simp) (by simp) h
    · exact h
  unfold takeSampleSet
  simp only
  split
  · exact segmentsSound_endRun hset
  · split
    · exact segmentsSound_endRun hset
    · exact hset

/-! ### Markers -/

theorem segmentsSound_qualifyMarker (line : Fin 4) (now : Nat) {s : State} (h : s.segmentsSound) :
    (qualifyMarker line now s).segmentsSound := by
  rcases qualifyMarker_cases line now s with heq | ⟨-, -, noted, s₁, -, -, -, rfl, ⟨-, heq⟩ | ⟨-, heq⟩⟩ <;> rw [heq]
  · exact h
  · exact segmentsSound_arriveRequest _ (segmentsSound_of_same (by simp) (by simp) h)
  · exact h

/-- What the end of a unit makes of the Segment Table: nothing, or the arrival of a peer's request (R65). -/
theorem endUnit_table (rest : List Byte) (s : State) :
    (endUnit rest s).table = s.table ∨
    ∃ header s₁, sameBut [.spine, .faults, .counters] s s₁ ∧
      (endUnit rest s).table = (arriveRequest (peerRequestOf header) s₁).table := by
  rcases endUnit_cases rest s with ⟨-, h⟩ | ⟨a, s₁, -, rfl, ⟨-, h⟩ | ⟨-, h⟩⟩ <;> rw [h]
  · exact .inl rfl
  · exact .inl rfl
  · have htransit : sameBut [.spine, .faults, .counters] s (endTransit a.fate (keptBytes a.header rest)
        { s with spine := { s.spine with input := none } }) := by
      refine sameBut_trans ?_ (sameBut_mono (endTransit_sameBut _ _ _) (by simp))
      intro p hp
      cases p <;> simp [Part.same] at hp ⊢
    obtain ⟨s₁, hs₁, hend⟩ := judgeEnd_cases a.header rest a.fate
      (endTransit a.fate (keptBytes a.header rest) { s with spine := { s.spine with input := none } })
    have hsame : sameBut [.spine, .faults, .counters] s s₁ := by
      rcases hs₁ with ⟨-, rfl⟩ | ⟨-, rfl⟩
      · exact htransit
      · refine sameBut_trans htransit ?_
        intro p hp
        cases p <;> simp [Part.same] at hp ⊢
    have htable : s₁.table = s.table := hsame .table (by simp)
    rcases hend with ⟨-, hend⟩ | ⟨-, -, hend⟩ | ⟨-, -, hend⟩ | ⟨-, -, -, hend⟩ <;> rw [hend]
    · exact .inl htable
    · exact .inl htable
    · exact .inl (by rw [arbitrate_table, ownUnit_sameBut a.header s₁ .table (by simp), htable])
    · rw [arbitrate_table]
      rcases handOn_cases a.header s₁ with hand | hand | ⟨-, -, hand⟩ | hand | hand <;> rw [hand]
      · exact .inl htable
      · refine .inl (Eq.trans ?_ htable)
        unfold ownNote
        repeat' split
        all_goals rfl
      · exact .inl ((peerPresence_sameBut a.header s₁ .table (by simp)).trans htable)
      · unfold peerMarker
        split
        · exact .inr ⟨a.header, s₁, hsame, rfl⟩
        · exact .inl htable
      · exact .inl ((ingestNote_sameBut a.header s₁ .table (by simp)).trans htable)

theorem segmentsSound_endUnit (rest : List Byte) {s : State} (h : s.segmentsSound) : (endUnit rest s).segmentsSound := by
  have hrun := (endUnit_staysOrJoins rest s).phase_run
  rcases endUnit_table rest s with htable | ⟨header, s₁, hsame, htable⟩
  · exact segmentsSound_of_table hrun htable h
  · have hstation : s₁.station = s.station := hsame .station (by simp)
    have harrived : (arriveRequest (peerRequestOf header) s₁).segmentsSound :=
      segmentsSound_arriveRequest _ (segmentsSound_of_same (by rw [hstation]) (hsame .table (by simp)) h)
    exact segmentsSound_of_table (by rw [hrun, arriveRequest_station, hstation]) htable harrived

/-! ### A step -/

theorem segmentsSound_loadConfiguration (record : List Byte) (straps : BitVec 4) {s : State} (h : s.segmentsSound) :
    (loadConfiguration record straps s).segmentsSound := by
  unfold loadConfiguration
  split
  · next hp =>
    split
    · exact segmentsSound_of_table (by simp [acceptConfiguration, hp]) (by simp [acceptConfiguration]) h
    · exact h
  · exact h

theorem segmentsSound_effect (c : Instr) (s : State) (hc : resets c = false) (h : s.segmentsSound) :
    (effect c s).segmentsSound := by
  have hite {p : Prop} [Decidable p] {t : State} (ht : t.segmentsSound) : (if p then t else s).segmentsSound := by
    split <;> assumption
  have hsame := effect_sameBut c s
  cases c with
  | powerOn straps => exact nomatch hc
  | resetAssert => exact nomatch hc
  | resetRelease straps => exact nomatch hc
  | loadConfig record straps => exact hite (segmentsSound_loadConfiguration _ straps h)
  | stopRun =>
    refine hite ?_
    split
    · exact segmentsSound_takeStop h
    · exact h
  | softReset => exact hite ((segmentsSound_nil rfl).2 (by simp [softResetStation]))
  | sampleSetTaken lanes => exact hite (segmentsSound_takeSampleSet lanes h)
  | startEdge => exact segmentsSound_takeStart h
  | stopEdge => exact hite (segmentsSound_takeStop h)
  | markerQualify line now => exact segmentsSound_qualifyMarker line now h
  | boundaryApply => exact segmentsSound_considerHead h
  | blockReadComplete corrected uncorrectable => exact segmentsSound_completeRead corrected uncorrectable h
  | trailerPlace => exact segmentsSound_settling.takeIfDue _ s h
  | gapFramePlace => exact segmentsSound_settling.takeIfDue _ s h
  | dataFrameStart => exact segmentsSound_settling.takeIfDue _ s h
  | memoryGapPlace => exact segmentsSound_settling.memoryGap s h
  | unitEnd rest => exact segmentsSound_endUnit rest h
  | flushComplete => exact segmentsSound_completeFlush h
  | _ => exact segmentsSound_of_same (congrArg _ (hsame .station (by simp [reach]))) (hsame .table (by simp [reach])) h

theorem segmentsSound_stepKeeps : StepKeeps State.segmentsSound :=
  { segmentsSound_settling with
    queue := fun _ _ h => h
    fresh := fun _ _ => (segmentsSound_nil rfl).2 (by simp [freshStation, State.reset])
    held := fun _ => (segmentsSound_nil rfl).2 (by simp [heldInReset, freshStation, State.reset])
    lane := fun _ _ _ h => h
    report := fun _ _ h => segmentsSound_of_same (by simp) (by simp) h
    effect := fun c s hc _ h => segmentsSound_effect c s hc h }

/-- Settles O58: a request cuts the last segment past its start, the run's end closes the newest, and a retired head was
CLOSED. -/
theorem segmentsKept : Obligations.SegmentsKept := fun _ _ _ hs h => segmentsSound_stepKeeps.step hs h

end Sys2Proof.Machine
end

section
/-! PROOFS. The sizes in every step (R22, R39, R62, R68, R79, R93, R120, R122, R146, R174): each queue and table on its own, then
all of them together. -/

namespace Sys2Proof.Machine

/-! ### The Staging Buffer (R22) -/

/-- The Staging Buffer stays within its 32 places. -/
def State.stagingFits (s : State) : Prop := s.memory.staging.length ≤ Config.stagingPlaces

theorem stagingFits_of_same {s t : State} (hstaging : t.memory.staging = s.memory.staging) (h : s.stagingFits) :
    t.stagingFits := by
  rw [State.stagingFits, hstaging]
  exact h

/-- A block is staged only below 32 staged blocks (R10). -/
theorem staging_lt_of_stage {s : State} (h : decideBlock s = .stage) :
    s.memory.staging.length < Config.stagingPlaces := by
  unfold decideBlock at h
  repeat' split at h
  all_goals simp_all

theorem stagingFits_completeBlock {s : State} (h : s.stagingFits) : (completeBlock s).stagingFits := by
  by_cases hstage : decideBlock s = .stage
  · have hroom := staging_lt_of_stage hstage
    rw [State.stagingFits, (completeBlock_stage s hstage).1, List.length_append, List.length_singleton]
    exact hroom
  · exact stagingFits_of_same (completeBlock_drop s hstage).1 h

theorem stagingFits_endRun {s : State} (h : s.stagingFits) : (endRun s).stagingFits := by
  have hblock : (if s.intake.point % Config.blockSamples = 0 then s else completeBlock s).stagingFits := by
    split
    · exact h
    · exact stagingFits_completeBlock h
  exact stagingFits_of_same (by simp [endRun]) hblock

theorem stagingFits_takeStop {s : State} (h : s.stagingFits) : (takeStop s).stagingFits := by
  unfold takeStop
  split
  · exact h
  · exact stagingFits_endRun h

theorem stagingFits_takeSampleSet (lanes : Vector Sample 8) {s : State} (h : s.stagingFits) :
    (takeSampleSet lanes s).stagingFits := by
  have hset : (advanceIntake lanes s).stagingFits := by
    refine stagingFits_of_same (s := if (writeSample lanes s).intake.point % Config.blockSamples = 0 then
      completeBlock (writeSample lanes s) else writeSample lanes s) (by simp [advanceIntake]) ?_
    split
    · exact stagingFits_completeBlock (s := writeSample lanes s) h
    · exact h
  unfold takeSampleSet
  simp only
  split
  · exact stagingFits_endRun hset
  · split
    · exact stagingFits_endRun hset
    · exact hset

theorem stagingFits_completeWrite {s : State} (h : s.stagingFits) : (completeWrite s).stagingFits := by
  have hhead : (storeHead s).stagingFits := by
    unfold storeHead
    split
    · exact h
    · next hstaging =>
      rw [State.stagingFits, hstaging] at h
      exact Nat.le_of_succ_le h
  unfold completeWrite
  split
  · exact stagingFits_of_same (by simp) h
  · split
    · exact stagingFits_of_same (by simp) hhead
    · exact h

theorem stagingFits_completeRead (corrected : Nat) (uncorrectable : Bool) {s : State} (h : s.stagingFits) :
    (completeRead corrected uncorrectable s).stagingFits := by
  rcases completeRead_cases corrected uncorrectable s with heq | ⟨-, heq⟩ | ⟨w, number, x, -, heq⟩ <;> rw [heq]
  · exact h
  · exact stagingFits_of_same (by simp) h
  · refine stagingFits_of_same ?_ h
    rw [portFreed_memory_staging]
    unfold afterRead
    split <;> simp

theorem stagingFits_settling : SettlingKeeps State.stagingFits where
  memoryGap _ h := stagingFits_of_same (by simp) h
  due _ _ _ h := stagingFits_of_same (by simp) h
  flush _ h := stagingFits_of_same (by simp) h

theorem stagingFits_effect (c : Instr) (s : State) (hc : resets c = false) (h : s.stagingFits) :
    (effect c s).stagingFits := by
  have hite {p : Prop} [Decidable p] {t : State} (ht : t.stagingFits) : (if p then t else s).stagingFits := by
    split <;> assumption
  have hsame := effect_sameBut c s
  cases c with
  | powerOn straps => exact nomatch hc
  | resetAssert => exact nomatch hc
  | resetRelease straps => exact nomatch hc
  | loadConfig record straps =>
    refine hite ?_
    unfold loadConfiguration
    simp only
    repeat' split
    all_goals exact stagingFits_of_same (by simp [acceptConfiguration]) h
  | stopRun =>
    refine hite ?_
    split
    · exact stagingFits_takeStop h
    · exact h
  | softReset => exact hite (Nat.zero_le _)
  | sampleSetTaken lanes => exact hite (stagingFits_takeSampleSet lanes h)
  | startEdge =>
    simp only [effect, takeStart]
    split <;> exact h
  | stopEdge => exact hite (stagingFits_takeStop h)
  | blockWriteComplete => exact stagingFits_completeWrite h
  | blockReadComplete corrected uncorrectable => exact stagingFits_completeRead corrected uncorrectable h
  | refreshComplete =>
    simp only [effect, completeRefresh]
    repeat' split
    all_goals exact stagingFits_of_same (by simp) h
  | refreshExpiry =>
    simp only [effect, refreshExpired]
    repeat' split
    all_goals exact stagingFits_of_same (by simp) h
  | thermalReading celsius => exact h
  | trailerPlace => exact stagingFits_settling.takeIfDue _ s h
  | gapFramePlace => exact stagingFits_settling.takeIfDue _ s h
  | dataFrameStart => exact stagingFits_settling.takeIfDue _ s h
  | _ => exact stagingFits_of_same (congrArg _ (hsame .memory (by simp [reach]))) h

theorem stagingFits_stepKeeps : StepKeeps State.stagingFits :=
  { stagingFits_settling with
    queue := fun _ _ h => h
    fresh := fun _ _ => Nat.zero_le _
    held := fun _ => Nat.zero_le _
    lane := fun _ _ _ h => h
    report := fun _ _ h => stagingFits_of_same (by simp) h
    effect := fun c s hc _ h => stagingFits_effect c s hc h }

/-! ### The Gap List (R39) -/

/-- The Gap List stays within its 32 entries. -/
def State.gapsFit (s : State) : Prop := s.gaps.entries.length ≤ Config.gapEntries

theorem gapsFit_of_same {s t : State} (hgaps : t.gaps = s.gaps) (h : s.gapsFit) : t.gapsFit := by
  rw [State.gapsFit, hgaps]
  exact h

theorem GapList.decided_length_le (d : Decision) (a k : Nat) {g : GapList} (h : g.entries.length ≤ 32) :
    (g.decided d a k).entries.length ≤ 32 := by
  cases d with
  | held => simpa [GapList.decided, GapList.droppedHeld] using h
  | drop cause => exact GapList.decided_drop_length_le g cause a k h
  | stage => simpa [GapList.decided, GapList.staged, GapList.closeNewest] using h

theorem GapList.consume_length_le (k : Nat) (g : GapList) : (g.consume k).entries.length ≤ g.entries.length := by
  unfold GapList.consume
  split
  · exact Nat.le_refl _
  · next he =>
    rw [he]
    repeat' split
    all_goals simp

theorem gapsFit_completeBlock {s : State} (h : s.gapsFit) : (completeBlock s).gapsFit := by
  rw [State.gapsFit, completeBlock_gaps]
  exact GapList.decided_length_le _ _ _ h

theorem gapsFit_endRun {s : State} (h : s.gapsFit) : (endRun s).gapsFit := by
  have hblock : (if s.intake.point % Config.blockSamples = 0 then s else completeBlock s).gapsFit := by
    split
    · exact h
    · exact gapsFit_completeBlock h
  rw [State.gapsFit, endRun, segmentRunEnd_gaps]
  simpa [GapList.runEnd, GapList.closeNewest, State.gapsFit] using hblock

theorem gapsFit_takeStop {s : State} (h : s.gapsFit) : (takeStop s).gapsFit := by
  unfold takeStop
  split
  · exact h
  · exact gapsFit_endRun h

theorem gapsFit_takeSampleSet (lanes : Vector Sample 8) {s : State} (h : s.gapsFit) :
    (takeSampleSet lanes s).gapsFit := by
  have hset : (advanceIntake lanes s).gapsFit := by
    refine gapsFit_of_same (s := if (writeSample lanes s).intake.point % Config.blockSamples = 0 then
      completeBlock (writeSample lanes s) else writeSample lanes s) (by simp [advanceIntake]) ?_
    split
    · exact gapsFit_completeBlock (s := writeSample lanes s) h
    · exact h
  unfold takeSampleSet
  simp only
  split
  · exact gapsFit_endRun hset
  · split
    · exact gapsFit_endRun hset
    · exact hset

theorem gapsFit_takeDueFrame (due : DueFrame) {s : State} (h : s.gapsFit) : (takeDueFrame due s).gapsFit := by
  cases due with
  | trailer head => exact gapsFit_of_same (placeTrailer_gaps s head) h
  | gap head e =>
    refine Nat.le_trans ?_ h
    simpa [takeDueFrame, placeGap] using GapList.consume_length_le _ s.gaps
  | data head last => exact gapsFit_of_same (startData_gaps s head last) h

theorem gapsFit_settling : SettlingKeeps State.gapsFit where
  memoryGap _ h := gapsFit_of_same (by simp) h
  due due _ _ h := gapsFit_takeDueFrame due h
  flush _ h := gapsFit_of_same (by simp) h

theorem gapsFit_effect (c : Instr) (s : State) (hc : resets c = false) (h : s.gapsFit) : (effect c s).gapsFit := by
  have hite {p : Prop} [Decidable p] {t : State} (ht : t.gapsFit) : (if p then t else s).gapsFit := by
    split <;> assumption
  have hsame := effect_sameBut c s
  cases c with
  | powerOn straps => exact nomatch hc
  | resetAssert => exact nomatch hc
  | resetRelease straps => exact nomatch hc
  | stopRun =>
    refine hite ?_
    split
    · exact gapsFit_takeStop h
    · exact h
  | softReset => exact hite (Nat.zero_le _)
  | sampleSetTaken lanes => exact hite (gapsFit_takeSampleSet lanes h)
  | startEdge =>
    simp only [effect, takeStart]
    split
    · exact Nat.zero_le _
    · exact Nat.zero_le _
    · exact Nat.zero_le _
    · exact h
    · exact h
    · exact h
  | stopEdge => exact hite (gapsFit_takeStop h)
  | trailerPlace => exact gapsFit_settling.takeIfDue _ s h
  | gapFramePlace => exact gapsFit_settling.takeIfDue _ s h
  | dataFrameStart => exact gapsFit_settling.takeIfDue _ s h
  | _ => exact gapsFit_of_same (hsame .gaps (by simp [reach])) h

theorem gapsFit_stepKeeps : StepKeeps State.gapsFit :=
  { gapsFit_settling with
    queue := fun _ _ h => h
    fresh := fun _ _ => Nat.zero_le _
    held := fun _ => Nat.zero_le _
    lane := fun _ _ _ h => h
    report := fun _ _ h => gapsFit_of_same (by simp) h
    effect := fun c s hc _ h => gapsFit_effect c s hc h }

/-! ### The marker window (R62) -/

/-- The marker window stays within its 4 times. -/
def State.windowFits (s : State) : Prop := s.markers.window.length ≤ Config.windowTimes

theorem windowFits_of_same {s t : State} (hwindow : t.markers.window = s.markers.window) (h : s.windowFits) :
    t.windowFits := by
  rw [State.windowFits, hwindow]
  exact h

theorem windowAfter_length_le (now : Nat) (window : List Nat) : (windowAfter now window).length ≤ window.length := by
  unfold windowAfter
  split
  · exact Nat.le_refl _
  · split <;> simp

theorem acceptMarker_window (line : Fin 4) (noted now : Nat) (s : State) :
    (acceptMarker line noted now s).markers.window = s.markers.window ++ [now] := by
  simp [acceptMarker]

theorem windowFits_qualifyMarker (line : Fin 4) (now : Nat) {s : State} (h : s.windowFits) :
    (qualifyMarker line now s).windowFits := by
  rcases qualifyMarker_cases line now s with heq | ⟨-, -, noted, s₁, -, -, -, rfl, ⟨hroom, heq⟩ | ⟨-, heq⟩⟩ <;> rw [heq]
  · exact h
  · rw [State.admitsMarker, Bool.and_eq_true, decide_eq_true_eq] at hroom
    rw [State.windowFits, acceptMarker_window, List.length_append, List.length_singleton]
    exact hroom.1
  · exact h

theorem windowFits_onLine (line : Fin 4) (next : LineSetup → MarkerLine → Option MarkerLine) {s : State}
    (h : s.windowFits) : (onLine line next s).windowFits := by
  unfold onLine
  split
  · exact h
  · split <;> exact h

theorem windowFits_takeStop {s : State} (h : s.windowFits) : (takeStop s).windowFits := by
  unfold takeStop
  split
  · exact h
  · exact windowFits_of_same (by simp) h

theorem takeSampleSet_window (lanes : Vector Sample 8) (s : State) :
    (takeSampleSet lanes s).markers.window = s.markers.window := by
  unfold takeSampleSet
  simp only
  repeat' split
  all_goals simp

theorem windowFits_settling : SettlingKeeps State.windowFits where
  memoryGap _ h := windowFits_of_same (by simp) h
  due _ _ _ h := windowFits_of_same (by simp) h
  flush _ h := windowFits_of_same (by simp) h

theorem windowFits_effect (c : Instr) (s : State) (hc : resets c = false) (h : s.windowFits) :
    (effect c s).windowFits := by
  have hite {p : Prop} [Decidable p] {t : State} (ht : t.windowFits) : (if p then t else s).windowFits := by
    split <;> assumption
  have hsame := effect_sameBut c s
  cases c with
  | powerOn straps => exact nomatch hc
  | resetAssert => exact nomatch hc
  | resetRelease straps => exact nomatch hc
  | loadConfig record straps =>
    refine hite ?_
    unfold loadConfiguration
    simp only
    repeat' split
    all_goals exact windowFits_of_same (by simp [acceptConfiguration]) h
  | rearmMarkers mask => exact hite h
  | stopRun =>
    refine hite ?_
    split
    · exact windowFits_takeStop h
    · exact h
  | softReset => exact hite (Nat.zero_le _)
  | sampleSetTaken lanes => exact hite (windowFits_of_same (takeSampleSet_window lanes s) h)
  | startEdge =>
    simp only [effect, takeStart]
    split <;> exact h
  | stopEdge => exact hite (windowFits_takeStop h)
  | markerEdge line => exact windowFits_onLine line _ h
  | markerInactiveLevel line => exact windowFits_onLine line _ h
  | markerActiveInRecovery line => exact windowFits_onLine line _ h
  | markerQualify line now => exact windowFits_qualifyMarker line now h
  | markerRecoveryEnd line => exact windowFits_onLine line _ h
  | markerWindowLeave now => exact Nat.le_trans (windowAfter_length_le now _) h
  | _ => exact windowFits_of_same (congrArg _ (hsame .markers (by simp [reach]))) h

theorem windowFits_stepKeeps : StepKeeps State.windowFits :=
  { windowFits_settling with
    queue := fun _ _ h => h
    fresh := fun _ _ => Nat.zero_le _
    held := fun _ => Nat.zero_le _
    lane := fun _ _ _ h => h
    report := fun _ _ h => windowFits_of_same (by simp) h
    effect := fun c s hc _ h => windowFits_effect c s hc h }

/-! ### The Boundary Queue and the Segment Table (R68, R79) -/

/-- The Boundary Queue stays within its 8 places and the Segment Table within its 63 live segments. -/
def State.tableFits (s : State) : Prop :=
  s.table.queue.length ≤ Config.boundaryPlaces ∧ s.table.live.length ≤ Config.liveSegments

theorem tableFits_of_lengths {s t : State} (hqueue : t.table.queue.length ≤ s.table.queue.length)
    (hlive : t.table.live.length ≤ s.table.live.length) (h : s.tableFits) : t.tableFits :=
  ⟨Nat.le_trans hqueue h.1, Nat.le_trans hlive h.2⟩

theorem tableFits_of_same {s t : State} (htable : t.table = s.table) (h : s.tableFits) : t.tableFits :=
  tableFits_of_lengths (by rw [htable]) (by rw [htable]) h

/-- A consideration leaves the live segments within their number. -/
theorem considerRequests_live_length (queue : List Request) {s : State}
    (h : s.table.live.length ≤ Config.liveSegments) :
    (considerRequests queue s).table.live.length ≤ Config.liveSegments := by
  induction queue generalizing s with
  | nil => exact h
  | cons r rest ih =>
    rw [considerRequests_cons]
    split
    · exact h
    · exact ih (by rwa [absorbRequest_live, mapLast_length])
    · next hj =>
      obtain ⟨-, -, -, -, -, hroom, -⟩ := judgeRequest_applied hj
      refine ih ?_
      rw [applyRequest_live, List.length_append, mapLast_length, List.length_singleton]
      exact hroom

theorem tableFits_considerHead {s : State} (h : s.tableFits) : (considerHead s).tableFits :=
  ⟨Nat.le_trans (considerRequests_queue s _) h.1, considerRequests_live_length _ h.2⟩

theorem tableFits_absorbRequest (coincident : Bool) {s : State} (h : s.tableFits) :
    (absorbRequest coincident s).tableFits :=
  tableFits_of_lengths (by simp) (by rw [absorbRequest_live, mapLast_length]) h

theorem tableFits_arriveRequest (r : Request) {s : State} (h : s.tableFits) : (arriveRequest r s).tableFits := by
  unfold arriveRequest
  split
  · exact h
  · split
    · exact tableFits_absorbRequest _ h
    · next hroom =>
      have hinserted : State.tableFits { s with table := { s.table with queue := insertRequest r s.table.queue } } := by
        refine ⟨?_, h.2⟩
        rw [insertRequest_length]
        exact Nat.lt_of_not_le hroom
      simp only
      split
      · exact tableFits_considerHead hinserted
      · exact hinserted

theorem tableFits_onHeadSegment (f : Segment → Segment) {s : State} (h : s.tableFits) : (onHeadSegment f s).tableFits :=
  tableFits_of_lengths (by simp) (by simp) h

theorem tableFits_takeDueFrame (due : DueFrame) {s : State} (h : s.tableFits) : (takeDueFrame due s).tableFits := by
  cases due with
  | trailer head => exact tableFits_of_lengths (by simp [takeDueFrame, placeTrailer]) (by simp [takeDueFrame, placeTrailer]) h
  | gap head e =>
    refine tableFits_considerHead (tableFits_onHeadSegment _ ?_)
    exact tableFits_of_same (by simp) h
  | data head last => exact tableFits_considerHead (tableFits_of_same (by simp) h)

theorem tableFits_placeMemoryGap {s : State} (h : s.tableFits) : (placeMemoryGap s).tableFits := by
  unfold placeMemoryGap
  split
  · split
    · exact tableFits_onHeadSegment _ (tableFits_of_same (by simp) h)
    · exact h
  · exact h
  · exact h

theorem tableFits_settling : SettlingKeeps State.tableFits where
  memoryGap _ h := tableFits_placeMemoryGap h
  due due _ _ h := tableFits_takeDueFrame due h
  flush _ h := tableFits_of_same (by simp) h

theorem tableFits_completeData (w : WorkingCopy) {s : State} (h : s.tableFits) : (completeData w s).tableFits :=
  tableFits_onHeadSegment _ (tableFits_of_same (by simp) h)

theorem tableFits_takeBlock (w : WorkingCopy) (b : Block) {s : State} (h : s.tableFits) : (takeBlock w b s).tableFits := by
  unfold takeBlock
  simp only
  split
  · exact h
  · exact tableFits_completeData _ h

theorem tableFits_truncateFrame (w : WorkingCopy) (b : Block) {s : State} (h : s.tableFits) :
    (truncateFrame w b s).tableFits := by
  have hcut (p : Prop) [Decidable p] (w' : WorkingCopy) : (if p then completeData w' s else s).tableFits := by
    split
    · exact tableFits_completeData _ h
    · exact h
  have hrelease (p : Prop) [Decidable p] {t : State} (ht : t.tableFits) : (if p then releaseBlock t else t).tableFits := by
    split <;> exact ht
  exact tableFits_considerHead (tableFits_of_same rfl (hrelease _ (hcut _ _)))

theorem tableFits_completeRead (corrected : Nat) (uncorrectable : Bool) {s : State} (h : s.tableFits) :
    (completeRead corrected uncorrectable s).tableFits := by
  rcases completeRead_cases corrected uncorrectable s with heq | ⟨-, heq⟩ | ⟨w, number, x, -, heq⟩ <;> rw [heq]
  · exact h
  · exact tableFits_of_same (by simp) h
  · have hcount : (countRead (s.readSlot w number) (x.found corrected uncorrectable) s).tableFits :=
      tableFits_of_same (countRead_sameBut _ _ s .table (by simp)) h
    refine tableFits_of_same (portFreed_table _) ?_
    unfold afterRead
    split
    · exact tableFits_truncateFrame _ _ hcount
    · exact tableFits_takeBlock _ _ hcount

theorem tableFits_endRun {s : State} (h : s.tableFits) : (endRun s).tableFits := by
  have htable : (if s.intake.point % Config.blockSamples = 0 then s else completeBlock s).table = s.table := by
    split <;> simp
  refine tableFits_considerHead (tableFits_of_lengths (s := s) ?_ ?_ h)
  · simp [htable]
  · simp [htable]

theorem tableFits_takeStop {s : State} (h : s.tableFits) : (takeStop s).tableFits := by
  unfold takeStop
  split
  · exact h
  · exact tableFits_endRun h

theorem tableFits_takeSampleSet (lanes : Vector Sample 8) {s : State} (h : s.tableFits) :
    (takeSampleSet lanes s).tableFits := by
  have hset : (advanceIntake lanes s).tableFits := by
    refine tableFits_considerHead ?_
    split
    · exact tableFits_of_same (by simp) h
    · exact h
  unfold takeSampleSet
  simp only
  split
  · exact tableFits_endRun hset
  · split
    · exact tableFits_endRun hset
    · exact hset

theorem tableFits_qualifyMarker (line : Fin 4) (now : Nat) {s : State} (h : s.tableFits) :
    (qualifyMarker line now s).tableFits := by
  rcases qualifyMarker_cases line now s with heq | ⟨-, -, noted, s₁, -, -, -, rfl, ⟨-, heq⟩ | ⟨-, heq⟩⟩ <;> rw [heq]
  · exact h
  · exact tableFits_arriveRequest _ (tableFits_of_same (by simp) h)
  · exact h

theorem tableFits_endUnit (rest : List Byte) {s : State} (h : s.tableFits) : (endUnit rest s).tableFits := by
  rcases endUnit_table rest s with htable | ⟨header, s₁, hsame, htable⟩
  · exact tableFits_of_same htable h
  · exact tableFits_of_same htable (tableFits_arriveRequest _ (tableFits_of_same (hsame .table (by simp)) h))

theorem tableFits_effect (c : Instr) (s : State) (hc : resets c = false) (h : s.tableFits) :
    (effect c s).tableFits := by
  have hite {p : Prop} [Decidable p] {t : State} (ht : t.tableFits) : (if p then t else s).tableFits := by
    split <;> assumption
  have hsame := effect_sameBut c s
  cases c with
  | powerOn straps => exact nomatch hc
  | resetAssert => exact nomatch hc
  | resetRelease straps => exact nomatch hc
  | stopRun =>
    refine hite ?_
    split
    · exact tableFits_takeStop h
    · exact h
  | softReset => exact hite ⟨Nat.zero_le _, Nat.zero_le _⟩
  | sampleSetTaken lanes => exact hite (tableFits_takeSampleSet lanes h)
  | startEdge =>
    have hbegun (t : State) : (beginRun t).tableFits := ⟨Nat.zero_le _, by simp [beginRun, runStartTable]⟩
    simp only [effect, takeStart]
    split
    · exact hbegun _
    · exact hbegun _
    · exact hbegun _
    · exact h
    · exact h
    · exact h
  | stopEdge => exact hite (tableFits_takeStop h)
  | markerQualify line now => exact tableFits_qualifyMarker line now h
  | boundaryApply => exact tableFits_considerHead h
  | blockReadComplete corrected uncorrectable => exact tableFits_completeRead corrected uncorrectable h
  | trailerPlace => exact tableFits_settling.takeIfDue _ s h
  | gapFramePlace => exact tableFits_settling.takeIfDue _ s h
  | dataFrameStart => exact tableFits_settling.takeIfDue _ s h
  | memoryGapPlace => exact tableFits_placeMemoryGap h
  | unitEnd rest => exact tableFits_endUnit rest h
  | _ => exact tableFits_of_same (hsame .table (by simp [reach])) h

theorem tableFits_stepKeeps : StepKeeps State.tableFits :=
  { tableFits_settling with
    queue := fun _ _ h => h
    fresh := fun _ _ => ⟨Nat.zero_le _, Nat.zero_le _⟩
    held := fun _ => ⟨Nat.zero_le _, Nat.zero_le _⟩
    lane := fun _ _ _ h => h
    report := fun _ _ h => tableFits_of_same (by simp) h
    effect := fun c s hc _ h => tableFits_effect c s hc h }

end Sys2Proof.Machine
end

section
/-! PROOFS. The sizes in every step, continued (R93, R120, R122, R146, R174): the Emit Queue, the peer table and the counters,
and all the sizes together. -/

namespace Sys2Proof.Machine

/-! ### What leaves the Emit Queue as it is, or only takes notes from its head -/

/-- The frame part stands, and the note part lost notes at its head at most. -/
structure EmitKept (s t : State) : Prop where
  frames : t.spine.frames = s.spine.frames
  notes : t.spine.notes <:+ s.spine.notes

namespace EmitKept

theorem of_same {s t : State} (hframes : t.spine.frames = s.spine.frames) (hnotes : t.spine.notes = s.spine.notes) :
    EmitKept s t := ⟨hframes, hnotes ▸ List.suffix_rfl⟩

theorem of_spine {s t : State} (h : t.spine = s.spine) : EmitKept s t := of_same (by rw [h]) (by rw [h])

theorem refl (s : State) : EmitKept s s := of_spine rfl

theorem trans {s t u : State} (h : EmitKept s t) (k : EmitKept t u) : EmitKept s u :=
  ⟨k.frames.trans h.frames, k.notes.trans h.notes⟩

theorem ite {p : Prop} [Decidable p] {s t u : State} (h : EmitKept s t) (k : EmitKept s u) :
    EmitKept s (if p then t else u) := by
  split <;> assumption

end EmitKept

theorem arbitrate_emitKept (s : State) : EmitKept s (arbitrate s) := by
  refine ⟨by simp, ?_⟩
  rcases arbitrate_notes s with h | h <;> rw [h]
  exact List.tail_suffix _

theorem outputFreed_emitKept (s : State) : EmitKept s (outputFreed s) :=
  (EmitKept.of_same rfl rfl : EmitKept s { s with spine := { s.spine with port := .free } }).trans (arbitrate_emitKept _)

theorem noteReceived_emitKept (arrived : List Byte) (s : State) : EmitKept s (noteReceived arrived s) := .of_same rfl rfl

theorem noteSent_emitKept (sent : Nat) (s : State) : EmitKept s (noteSent sent s) := by
  unfold noteSent
  split <;> exact .of_same rfl rfl

theorem endForwarding_emitKept (s : State) : EmitKept s (endForwarding s) := by
  unfold endForwarding
  split
  · refine .ite (.trans ?_ (outputFreed_emitKept _)) (.refl s)
    exact .of_same rfl rfl
  · exact .refl s

theorem endNote_emitKept (s : State) : EmitKept s (endNote s) := by
  unfold endNote
  split
  · exact (EmitKept.of_same rfl rfl : EmitKept s (noteSentUnit s)).trans (outputFreed_emitKept _)
  all_goals exact .refl s

theorem arriveHeader_emitKept (header : List Byte) (s : State) : EmitKept s (arriveHeader header s) := by
  unfold arriveHeader
  split
  case h_5 =>
    refine .trans ?_ (arbitrate_emitKept _)
    exact .of_same rfl rfl
  all_goals exact .of_same rfl rfl

theorem ownNote_emitKept (header : List Byte) (s : State) : EmitKept s (ownNote header s) := by
  unfold ownNote
  repeat' split
  all_goals exact .of_same rfl rfl

theorem ownUnit_emitKept (header : List Byte) (s : State) : EmitKept s (ownUnit header s) := by
  unfold ownUnit ownFrame
  split
  · exact ownNote_emitKept header s
  · repeat' split
    all_goals exact .of_same rfl rfl

theorem handOn_emitKept (header : List Byte) (s : State) : EmitKept s (handOn header s) := by
  rcases handOn_cases header s with h | h | ⟨-, -, h⟩ | h | h <;> rw [h]
  · exact .refl s
  · exact ownNote_emitKept header s
  · exact .of_spine (peerPresence_sameBut header s .spine (by simp))
  · exact .of_spine (peerMarker_sameBut header s .spine (by simp))
  · unfold ingestNote
    split <;> exact .of_same rfl rfl

theorem endTransit_emitKept (fate : ArrivalFate) (body : List Byte) (s : State) : EmitKept s (endTransit fate body s) := by
  unfold endTransit
  split <;> exact .of_same rfl rfl

theorem judgeEnd_emitKept (header rest : List Byte) (fate : ArrivalFate) (s : State) :
    EmitKept s (judgeEnd header rest fate s) := by
  obtain ⟨s₁, hs₁, h⟩ := judgeEnd_cases header rest fate s
  have hcheck : EmitKept s s₁ := by rcases hs₁ with ⟨-, rfl⟩ | ⟨-, rfl⟩ <;> exact .of_same rfl rfl
  rcases h with ⟨-, h⟩ | ⟨-, -, h⟩ | ⟨-, -, h⟩ | ⟨-, -, -, h⟩ <;> rw [h]
  · exact hcheck.trans (.of_spine (countOrphan_spine s₁))
  · exact hcheck
  · exact (hcheck.trans (ownUnit_emitKept header s₁)).trans (arbitrate_emitKept _)
  · exact (hcheck.trans (handOn_emitKept header s₁)).trans (arbitrate_emitKept _)

theorem endUnit_emitKept (rest : List Byte) (s : State) : EmitKept s (endUnit rest s) := by
  rcases endUnit_cases rest s with ⟨-, h⟩ | ⟨a, s₁, -, rfl, ⟨-, h⟩ | ⟨-, h⟩⟩ <;> rw [h]
  · exact .of_same rfl rfl
  · exact .of_same rfl rfl
  · have htransit := endTransit_emitKept a.fate (keptBytes a.header rest) { s with spine := { s.spine with input := none } }
    exact (EmitKept.trans ⟨htransit.frames, htransit.notes⟩ (judgeEnd_emitKept _ _ _ _))

theorem ageOutIngest_emitKept (s : State) : EmitKept s (ageOutIngest s) := by
  unfold ageOutIngest
  refine .ite (.trans ?_ (arbitrate_emitKept _)) (.refl s)
  exact .of_same rfl rfl

theorem openRing_emitKept (s : State) : EmitKept s (openRing s) := by
  unfold openRing
  exact .ite (.of_same rfl rfl) (.refl s)

/-- The tick before its note. -/
theorem beforeAnnounce_emitKept (s : State) : EmitKept s (computeLevels (advanceReturn (ageIngest (agePeers s)))) := by
  have hingest : EmitKept s (ageIngest (agePeers s)) := by
    refine .trans ?_ (ageOutIngest_emitKept _)
    exact .of_spine rfl
  have hreturn : EmitKept (ageIngest (agePeers s)) (advanceReturn (ageIngest (agePeers s))) := by
    refine .trans ?_ (openRing_emitKept _)
    exact .of_spine rfl
  exact (hingest.trans hreturn).trans (.of_spine rfl)

theorem acceptConfiguration_emitKept (c : Configuration) (s : State) : EmitKept s (acceptConfiguration c s) := by
  unfold acceptConfiguration
  refine .trans ?_ (arbitrate_emitKept _)
  exact .of_same (by simp) (by simp)

theorem loadConfiguration_emitKept (record : List Byte) (straps : BitVec 4) (s : State) :
    EmitKept s (loadConfiguration record straps s) := by
  have hanswer {t : State} (bytes : List Byte) (ht : EmitKept s t) : EmitKept s (answer bytes t) :=
    ht.trans (.of_spine rfl)
  unfold loadConfiguration
  split
  · split
    · refine hanswer _ (.trans ?_ (acceptConfiguration_emitKept _ _))
      exact .of_same rfl rfl
    · exact .of_same rfl rfl
  · exact .of_same rfl rfl

/-! ### The note part (R120, R121) -/

/-- The note part stays within its 8 notes, one presence note at most among them. -/
def State.notesFit (s : State) : Prop :=
  s.spine.notes.length ≤ Config.noteSlots ∧ (s.spine.notes.filter Note.isPresence).length ≤ 1

theorem notesFit_of_suffix {s t : State} (hnotes : t.spine.notes <:+ s.spine.notes) (h : s.notesFit) : t.notesFit :=
  ⟨Nat.le_trans hnotes.length_le h.1, Nat.le_trans (hnotes.filter _).length_le h.2⟩

theorem notesFit_of_spine {s t : State} (hspine : t.spine = s.spine) (h : s.notesFit) : t.notesFit :=
  notesFit_of_suffix (by rw [hspine]) h

theorem EmitKept.notesFit {s t : State} (k : EmitKept s t) (h : s.notesFit) : t.notesFit := notesFit_of_suffix k.notes h

/-- A note joins where there is room, and no presence note beside it if it is one. -/
theorem notesFit_joinNote {n : Note} {s : State} (hroom : s.spine.notes.length < Config.noteSlots)
    (hpresence : n.isPresence = true → s.spine.notes.filter Note.isPresence = []) (h : s.notesFit) :
    (joinNote n s).notesFit := by
  refine (arbitrate_emitKept _).notesFit ⟨?_, ?_⟩
  · rw [List.length_append, List.length_singleton]
    exact hroom
  · rw [List.filter_append, List.length_append]
    cases hn : n.isPresence
    · simpa [hn] using h.2
    · simp [hn, hpresence hn]

/-- A replaced presence note stands at the place of the one before. -/
theorem replacePresence_some {n : Note} (hn : n.isPresence = true) {notes notes' : List Note}
    (h : replacePresence n notes = some notes') :
    notes'.length = notes.length ∧
      (notes'.filter Note.isPresence).length = (notes.filter Note.isPresence).length := by
  induction notes generalizing notes' with
  | nil => exact nomatch h
  | cons m rest ih =>
    rw [replacePresence] at h
    split at h
    · next hm =>
      obtain rfl := Option.some.inj h
      simp [hn, hm]
    · next hm =>
      obtain ⟨tail, htail, rfl⟩ := Option.map_eq_some_iff.1 h
      obtain ⟨hlength, hcount⟩ := ih htail
      simp [hm, hlength, hcount]

theorem replacePresence_none {n : Note} {notes : List Note} (h : replacePresence n notes = none) :
    notes.filter Note.isPresence = [] := by
  induction notes with
  | nil => rfl
  | cons m rest ih =>
    rw [replacePresence] at h
    split at h
    · exact nomatch h
    · next hm => simpa [hm] using ih (Option.map_eq_none_iff.1 h)

theorem notesFit_queuePresence {n : Note} (hn : n.isPresence = true) {s : State} (h : s.notesFit) :
    (queuePresence n s).notesFit := by
  unfold queuePresence
  split
  · next notes hreplaced =>
    obtain ⟨hlength, hcount⟩ := replacePresence_some hn hreplaced
    exact ⟨Nat.le_trans (Nat.le_of_eq hlength) h.1, Nat.le_trans (Nat.le_of_eq hcount) h.2⟩
  · next hnone =>
    split
    · next hroom => exact notesFit_joinNote hroom (fun _ => replacePresence_none hnone) h
    · exact h

theorem notesFit_paceTick {s : State} (h : s.notesFit) : (paceTick s).notesFit := by
  unfold paceTick
  split
  · refine notesFit_queuePresence rfl ?_
    exact notesFit_of_spine rfl ((beforeAnnounce_emitKept s).notesFit h)
  · exact h

theorem notesFit_qualifyMarker (line : Fin 4) (now : Nat) {s : State} (h : s.notesFit) :
    (qualifyMarker line now s).notesFit := by
  rcases qualifyMarker_cases line now s with heq | ⟨-, -, noted, s₁, -, -, -, rfl, ⟨hroom, heq⟩ | ⟨-, heq⟩⟩ <;> rw [heq]
  · exact h
  · rw [State.admitsMarker, Bool.and_eq_true, decide_eq_true_eq, decide_eq_true_eq] at hroom
    refine notesFit_of_spine (arriveRequest_spine _ _) (notesFit_joinNote hroom.2 ?_ h)
    exact nofun
  · exact h

theorem notesFit_endFrame {s : State} (h : s.notesFit) : (endFrame s).notesFit := by
  unfold endFrame
  split
  · refine (outputFreed_emitKept _).notesFit ?_
    exact h
  all_goals exact h

/-! ### The frame part (R93, R122) -/

/-- The frame part stays within its 4 frames, with a slot left for the DATA frame in assembly. -/
def State.framesFit (s : State) : Prop := s.spine.frames.length ≤ s.assembler.phase.frameRoom

theorem framesFit_of_same {s t : State} (hframes : t.spine.frames = s.spine.frames)
    (hphase : t.assembler.phase = s.assembler.phase) (h : s.framesFit) : t.framesFit := by
  rw [State.framesFit, hframes, hphase]
  exact h

theorem EmitKept.framesFit {s t : State} (k : EmitKept s t) (hphase : t.assembler.phase = s.assembler.phase)
    (h : s.framesFit) : t.framesFit := framesFit_of_same k.frames hphase h

/-- A frame is chosen in IDLE, with fewer than 4 frames waiting (R93). -/
theorem chooseFrame_room {s : State} {due : DueFrame} (h : chooseFrame s = some due) :
    s.assembler.phase = .idle ∧ s.spine.frames.length < Config.frameSlots := by
  unfold chooseFrame at h
  split at h
  · exact nomatch h
  · split at h
    · assumption
    · exact nomatch h

theorem framesFit_takeDueFrame {due : DueFrame} {s : State} (hdue : chooseFrame s = some due) :
    (takeDueFrame due s).framesFit := by
  obtain ⟨hidle, hroom⟩ := chooseFrame_room hdue
  cases due with
  | trailer head => simpa [State.framesFit, takeDueFrame, placeTrailer, hidle, AssemblerPhase.frameRoom] using hroom
  | gap head e => simpa [State.framesFit, takeDueFrame, placeGap, hidle, AssemblerPhase.frameRoom] using hroom
  | data head last =>
    simpa [State.framesFit, takeDueFrame, startData, AssemblerPhase.frameRoom] using Nat.le_of_lt_succ hroom

theorem framesFit_placeMemoryGap {s : State} (h : s.framesFit) : (placeMemoryGap s).framesFit := by
  unfold placeMemoryGap
  split
  · split
    · next hroom => simpa [State.framesFit, AssemblerPhase.frameRoom] using hroom
    · exact h
  · exact h
  · exact h

theorem framesFit_settling : SettlingKeeps State.framesFit where
  memoryGap _ h := framesFit_placeMemoryGap h
  due _ _ hdue _ := framesFit_takeDueFrame hdue
  flush _ h := framesFit_of_same (by simp) (by simp) h

theorem completeData_frames_length (w : WorkingCopy) (s : State) :
    (completeData w s).spine.frames.length = s.spine.frames.length + 1 := by
  simp [completeData]

theorem framesFit_takeBlock (w : WorkingCopy) (b : Block) {s : State} (h : s.spine.frames.length ≤ 3) :
    (takeBlock w b s).framesFit := by
  unfold takeBlock
  simp only
  split
  · exact h
  · rw [State.framesFit, completeData_frames_length, completeData_assembler_phase]
    exact Nat.succ_le_succ h

theorem framesFit_truncateFrame (w : WorkingCopy) (b : Block) {s : State} (h : s.spine.frames.length ≤ 3) :
    (truncateFrame w b s).framesFit := by
  have hcut (p : Prop) [Decidable p] (w' : WorkingCopy) :
      (if p then completeData w' s else s).spine.frames.length ≤ 4 := by
    split
    · rw [completeData_frames_length]
      exact Nat.succ_le_succ h
    · exact Nat.le_succ_of_le h
  have hrelease (p : Prop) [Decidable p] {t : State} (ht : t.spine.frames.length ≤ 4) :
      (if p then releaseBlock t else t).spine.frames.length ≤ 4 := by
    split <;> exact ht
  rw [State.framesFit, truncateFrame, considerHead_spine, considerHead_assembler]
  exact hrelease _ (hcut _ _)

theorem framesFit_completeRead (corrected : Nat) (uncorrectable : Bool) {s : State} (h : s.framesFit) :
    (completeRead corrected uncorrectable s).framesFit := by
  rcases completeRead_cases corrected uncorrectable s with heq | ⟨-, heq⟩ | ⟨w, number, x, hreads, heq⟩ <;> rw [heq]
  · exact h
  · exact framesFit_of_same (by simp) (by simp) h
  · rw [State.framesFit, hreads.assembling] at h
    have hcount : (countRead (s.readSlot w number) (x.found corrected uncorrectable) s).spine.frames.length ≤ 3 := by
      rw [countRead_sameBut _ _ s .spine (by simp)]
      exact h
    refine framesFit_of_same (s := afterRead w (s.readSlot w number) (x.found corrected uncorrectable) s)
      (by rw [portFreed_spine]) (by rw [portFreed_assembler]) ?_
    unfold afterRead
    split
    · exact framesFit_truncateFrame _ _ hcount
    · exact framesFit_takeBlock _ _ hcount

theorem framesFit_endFrame {s : State} (h : s.framesFit) : (endFrame s).framesFit := by
  unfold endFrame
  split
  · refine (outputFreed_emitKept _).framesFit (congrArg _ (outputFreed_assembler _)) (Nat.le_trans ?_ h)
    rw [List.length_tail]
    exact Nat.sub_le _ _
  all_goals exact h

theorem framesFit_softReset (s : State) : (softResetStation s).framesFit := by
  show (if s.spine.port = .insertingFrame then s.spine.frames.take 1 else []).length ≤ Config.frameSlots
  split
  · exact Nat.le_trans (List.length_take_le _ _) (by decide)
  · exact Nat.zero_le _

/-! ### The Emit Queue in every step -/

/-- Both parts of the Emit Queue stay within their sizes. -/
def State.emitFits (s : State) : Prop := s.notesFit ∧ s.framesFit

theorem EmitKept.emitFits {s t : State} (k : EmitKept s t) (hphase : t.assembler.phase = s.assembler.phase)
    (h : s.emitFits) : t.emitFits := ⟨k.notesFit h.1, k.framesFit hphase h.2⟩

theorem emitFits_of_same {s t : State} (hspine : t.spine = s.spine) (hphase : t.assembler.phase = s.assembler.phase)
    (h : s.emitFits) : t.emitFits := (EmitKept.of_spine hspine).emitFits hphase h

/-- A placed frame joins the frame part, and the output may choose a note (R126). -/
theorem placeFrame_notes (segOrigin : Byte) (segSeq : BitVec 16) (body : FrameBody) (s : State) :
    (placeFrame segOrigin segSeq body s).spine.notes <:+ s.spine.notes := by
  unfold placeFrame joinFrame
  exact (arbitrate_emitKept _).notes

theorem takeDueFrame_notes (due : DueFrame) (s : State) : (takeDueFrame due s).spine.notes <:+ s.spine.notes := by
  cases due with
  | trailer head => exact placeFrame_notes _ _ _ s
  | gap head e =>
    rw [takeDueFrame, placeGap, considerHead_spine, onHeadSegment_spine]
    exact placeFrame_notes _ _ _ s
  | data head last => simp [takeDueFrame]

theorem placeMemoryGap_notes (s : State) : (placeMemoryGap s).spine.notes <:+ s.spine.notes := by
  unfold placeMemoryGap
  split
  · split
    · exact placeFrame_notes _ _ _ s
    · exact List.suffix_rfl
  · exact List.suffix_rfl
  · exact List.suffix_rfl

theorem emitFits_settling : SettlingKeeps State.emitFits where
  memoryGap s h := ⟨notesFit_of_suffix (placeMemoryGap_notes s) h.1, framesFit_settling.memoryGap s h.2⟩
  due due s hdue h := ⟨notesFit_of_suffix (takeDueFrame_notes due s) h.1, framesFit_settling.due due s hdue h.2⟩
  flush s h := ⟨notesFit_of_spine (completeFlush_spine s) h.1, framesFit_settling.flush s h.2⟩

theorem completeData_notes (w : WorkingCopy) (s : State) : (completeData w s).spine.notes <:+ s.spine.notes := by
  rw [completeData, onHeadSegment_spine, releaseThrough_spine]
  exact placeFrame_notes _ _ _ s

theorem afterRead_notes (w : WorkingCopy) (slot : Nat) (x : Slot) (s : State) :
    (afterRead w slot x s).spine.notes <:+ s.spine.notes := by
  have hcount : (countRead slot x s).spine = s.spine := countRead_sameBut slot x s .spine (by simp)
  unfold afterRead
  rw [← hcount]
  split
  · have hcut (p : Prop) [Decidable p] (w' : WorkingCopy) (t : State) :
        (if p then completeData w' t else t).spine.notes <:+ t.spine.notes := by
      split
      · exact completeData_notes _ _
      · exact List.suffix_rfl
    have hrelease (p : Prop) [Decidable p] (t : State) : (if p then releaseBlock t else t).spine = t.spine := by
      split <;> rfl
    rw [truncateFrame, considerHead_spine]
    simp only [hrelease]
    exact hcut _ _ _
  · unfold takeBlock
    simp only
    split
    · exact List.suffix_rfl
    · exact completeData_notes _ _

theorem emitFits_completeRead (corrected : Nat) (uncorrectable : Bool) {s : State} (h : s.emitFits) :
    (completeRead corrected uncorrectable s).emitFits := by
  refine ⟨notesFit_of_suffix ?_ h.1, framesFit_completeRead corrected uncorrectable h.2⟩
  rcases completeRead_cases corrected uncorrectable s with heq | ⟨-, heq⟩ | ⟨w, number, x, -, heq⟩ <;> rw [heq]
  · rw [portFreed_spine]
  · rw [portFreed_spine]
    exact afterRead_notes _ _ _ s

theorem emitFits_effect (c : Instr) (s : State) (hc : resets c = false) (h : s.emitFits) : (effect c s).emitFits := by
  have hite {p : Prop} [Decidable p] {t : State} (ht : t.emitFits) : (if p then t else s).emitFits := by
    split <;> assumption
  have hsame := effect_sameBut c s
  cases c with
  | powerOn straps => exact nomatch hc
  | resetAssert => exact nomatch hc
  | resetRelease straps => exact nomatch hc
  | loadConfig record straps =>
    have hphase := loadConfiguration_sameBut record.toList straps s .assembler (by simp)
    exact hite ((loadConfiguration_emitKept _ straps s).emitFits (congrArg _ hphase) h)
  | softReset => exact hite ⟨⟨Nat.zero_le _, Nat.zero_le _⟩, framesFit_softReset s⟩
  | startEdge =>
    refine emitFits_of_same (hsame .spine (by simp [reach])) ?_ h
    simp only [effect, takeStart]
    split <;> rfl
  | markerQualify line now =>
    refine ⟨notesFit_qualifyMarker line now h.1, framesFit_of_same ?_ ?_ h.2⟩
    · rcases qualifyMarker_cases line now s with heq | ⟨-, -, noted, s₁, -, -, -, rfl, ⟨-, heq⟩ | ⟨-, heq⟩⟩ <;>
        simp only [effect, heq]
      · simp [acceptMarker]
      · simp
    · exact congrArg _ (hsame .assembler (by simp [reach]))
  | blockReadComplete corrected uncorrectable => exact emitFits_completeRead corrected uncorrectable h
  | trailerPlace => exact emitFits_settling.takeIfDue _ s h
  | gapFramePlace => exact emitFits_settling.takeIfDue _ s h
  | dataFrameStart => exact emitFits_settling.takeIfDue _ s h
  | memoryGapPlace => exact emitFits_settling.memoryGap s h
  | flushAgeExpiry =>
    refine emitFits_of_same (hsame .spine (by simp [reach])) ?_ h
    simp only [effect, flushAgeExpired]
    split <;> rfl
  | unitHeaderArrival header sent =>
    have hkept := (noteSent_emitKept sent s).trans (arriveHeader_emitKept header.toList _)
    exact (EmitKept.ite (.refl s) hkept).emitFits (congrArg _ (hsame .assembler (by simp [reach]))) h
  | unitEnd rest => exact (endUnit_emitKept rest s).emitFits (congrArg _ (hsame .assembler (by simp [reach]))) h
  | forwardingEnd arrived =>
    have hkept := (noteReceived_emitKept arrived s).trans (endForwarding_emitKept _)
    exact hkept.emitFits (congrArg _ (hsame .assembler (by simp [reach]))) h
  | noteInsertionEnd arrived =>
    have hkept := (noteReceived_emitKept arrived s).trans (endNote_emitKept _)
    exact hkept.emitFits (congrArg _ (hsame .assembler (by simp [reach]))) h
  | frameInsertionComplete arrived => exact ⟨notesFit_endFrame h.1, framesFit_endFrame h.2⟩
  | paceTick =>
    refine ⟨notesFit_paceTick h.1, framesFit_of_same ?_ (congrArg _ (hsame .assembler (by simp [reach]))) h.2⟩
    simp only [effect, paceTick]
    split
    · rw [announce, queuePresence_spine_frames]
      exact (beforeAnnounce_emitKept s).frames
    · rfl
  | ingestAgeOut => exact (ageOutIngest_emitKept s).emitFits (congrArg _ (hsame .assembler (by simp [reach]))) h
  | ringOpen => exact (openRing_emitKept s).emitFits (congrArg _ (hsame .assembler (by simp [reach]))) h
  | flushComplete => exact emitFits_settling.flush s h
  | _ => exact emitFits_of_same (hsame .spine (by simp [reach])) (congrArg _ (hsame .assembler (by simp [reach]))) h

theorem emitFits_stepKeeps : StepKeeps State.emitFits :=
  { emitFits_settling with
    queue := fun _ _ h => h
    fresh := fun _ _ => ⟨⟨Nat.zero_le _, Nat.zero_le _⟩, Nat.zero_le _⟩
    held := fun _ => ⟨⟨Nat.zero_le _, Nat.zero_le _⟩, Nat.zero_le _⟩
    lane := fun _ _ _ h => h
    report := fun _ _ h => emitFits_of_same (by simp) (by simp) h
    effect := fun c s hc _ h => emitFits_effect c s hc h }

/-! ### The peer table (R146) -/

/-- The peer table has its 14 entries. -/
def State.peersFit (s : State) : Prop := s.presence.peers.length = 14

theorem peersFit_of_presence {s t : State} (hpresence : t.presence = s.presence) (h : s.peersFit) : t.peersFit := by
  rw [State.peersFit, hpresence]
  exact h

theorem peersSampled_length (straps : BitVec 4) (peers : List PeerEntry) :
    (peersSampled straps peers).length = peers.length := by
  unfold peersSampled
  split <;> simp

theorem peersFit_loadConfiguration (record : List Byte) (straps : BitVec 4) {s : State} (h : s.peersFit) :
    (loadConfiguration record straps s).peersFit := by
  have hsampled : (peersSampled straps s.presence.peers).length = 14 := (peersSampled_length _ _).trans h
  unfold loadConfiguration
  split
  · split
    · simpa [State.peersFit, acceptConfiguration] using hsampled
    · exact hsampled
  · exact hsampled

theorem handOn_peers_length (header : List Byte) (s : State) :
    (handOn header s).presence.peers.length = s.presence.peers.length := by
  rcases handOn_cases header s with h | h | ⟨-, -, h⟩ | h | h <;> rw [h]
  · rw [(ownNote_peers header s).1]
  · unfold peerPresence
    split <;> simp
  · rw [peerMarker_sameBut header s .presence (by simp)]
  · unfold ingestNote
    split <;> rfl

theorem ownUnit_peers (header : List Byte) (s : State) : (ownUnit header s).presence.peers = s.presence.peers := by
  unfold ownUnit ownFrame
  split
  · exact (ownNote_peers header s).1
  · repeat' split
    all_goals rfl

theorem endUnit_peers_length (rest : List Byte) (s : State) :
    (endUnit rest s).presence.peers.length = s.presence.peers.length := by
  rcases endUnit_cases rest s with ⟨-, h⟩ | ⟨a, s₁, -, rfl, ⟨-, h⟩ | ⟨-, h⟩⟩ <;> rw [h]
  · rfl
  · obtain ⟨s₁, hs₁, hend⟩ := judgeEnd_cases a.header rest a.fate
      (endTransit a.fate (keptBytes a.header rest) { s with spine := { s.spine with input := none } })
    have hpresence : s₁.presence = s.presence := by
      have htransit (t : State) := endTransit_sameBut a.fate (keptBytes a.header rest) t .presence (by simp)
      rcases hs₁ with ⟨-, rfl⟩ | ⟨-, rfl⟩ <;> exact htransit _
    rcases hend with ⟨-, hend⟩ | ⟨-, -, hend⟩ | ⟨-, -, hend⟩ | ⟨-, -, -, hend⟩ <;> rw [hend]
    · exact congrArg (fun p => p.peers.length) hpresence
    · rw [hpresence]
    · rw [arbitrate_presence, ownUnit_peers, hpresence]
    · rw [arbitrate_presence, handOn_peers_length, hpresence]

theorem peersFit_paceTick {s : State} (h : s.peersFit) : (paceTick s).peersFit := by
  rw [State.peersFit]
  by_cases hticking : s.presence.ticking = true
  · rw [paceTick_peers hticking, List.length_map]
    exact h
  · rw [paceTick, if_neg hticking]
    exact h

theorem peersFit_effect (c : Instr) (s : State) (hc : resets c = false) (h : s.peersFit) : (effect c s).peersFit := by
  have hite {p : Prop} [Decidable p] {t : State} (ht : t.peersFit) : (if p then t else s).peersFit := by
    split <;> assumption
  have hsame := effect_sameBut c s
  have hjudge (phases : PeerPhase → Bool) (address : BitVec 4) : (judgePeer phases address s).peersFit := by
    refine hite ?_
    rw [State.peersFit, mapNth_length]
    exact h
  cases c with
  | powerOn straps => exact nomatch hc
  | resetAssert => exact nomatch hc
  | resetRelease straps => exact nomatch hc
  | loadConfig record straps => exact hite (peersFit_loadConfiguration _ straps h)
  | softReset => exact hite rfl
  | unitEnd rest => exact (endUnit_peers_length rest s).trans h
  | paceTick => exact peersFit_paceTick h
  | ingestAgeOut =>
    rw [State.peersFit, effect, ageOutIngest_peers]
    exact h
  | peerStaleExpiry address => exact hjudge _ address
  | peerAbsentExpiry address => exact hjudge _ address
  | _ => exact peersFit_of_presence (hsame .presence (by simp [reach])) h

theorem peersFit_stepKeeps : StepKeeps State.peersFit where
  memoryGap _ h := peersFit_of_presence (by simp) h
  due _ _ _ h := peersFit_of_presence (by simp) h
  flush _ h := peersFit_of_presence (by simp) h
  queue _ _ h := h
  fresh straps s := peersSampled_length straps _
  held _ := rfl
  lane _ _ _ h := h
  report _ _ h := peersFit_of_presence (by simp) h
  effect c s hc _ h := peersFit_effect c s hc h

/-! ### All the sizes -/

theorem withinSizes_iff (s : State) :
    s.withinSizes ↔
      s.stagingFits ∧ s.gapsFit ∧ s.windowFits ∧ s.tableFits ∧ s.emitFits ∧ s.peersFit := by
  simp only [State.withinSizes, State.stagingFits, State.gapsFit, State.windowFits, State.tableFits, State.emitFits,
    State.notesFit, State.framesFit, State.peersFit]
  tauto

/-- The counters stay within their ranges (R174). -/
theorem countersWithin_step {s t : State} (hs : s.counters.within) (h : step s = .next t) : t.counters.within := by
  unfold step at h
  split at h
  · exact Host.Outcome.next.inj h ▸ hs
  · next c rest _ =>
    rw [eq_nextOf_of_exec h]
    by_cases hc : resets c = false
    · exact (nextOf_countersRise c { s with pending := rest } hc hs).1
    · cases c <;> simp [resets] at hc <;> simp [nextOf, resets, effect, Counters.within, freshStation, heldInReset, State.reset]

/-- Settles O53: every queue and table on its own, and the counters, which saturate. -/
theorem sizesKept : Obligations.SizesKept := by
  intro s t hsizes hcounters h
  obtain ⟨hstaging, hgaps, hwindow, htable, hemit, hpeers⟩ := (withinSizes_iff s).1 hsizes
  exact ⟨(withinSizes_iff t).2 ⟨stagingFits_stepKeeps.step hstaging h, gapsFit_stepKeeps.step hgaps h,
    windowFits_stepKeeps.step hwindow h, tableFits_stepKeeps.step htable h, emitFits_stepKeeps.step hemit h,
    peersFit_stepKeeps.step hpeers h⟩, countersWithin_step hcounters h⟩

end Sys2Proof.Machine
end

section
/-! PROOFS. Quiet changes: no condition begins or ends, and no flag but one of an event is set, so that the report adds nothing
(R175 to R177). -/

namespace Sys2Proof.Machine

/-- No condition changes, and only flags of events are set. -/
structure Quiet (s t : State) : Prop where
  conditions : t.conditions = s.conditions
  mode : t.faults.mode = s.faults.mode
  flags : ∃ w : BitVec 24, w &&& conditionFlags = 0 ∧ t.faults.flags = s.faults.flags ||| w

namespace Quiet

theorem of_same {s t : State} (hconditions : t.conditions = s.conditions) (hfaults : t.faults = s.faults) : Quiet s t where
  conditions := hconditions
  mode := by rw [hfaults]
  flags := ⟨0, by simp, by simp [hfaults]⟩

theorem refl (s : State) : Quiet s s := of_same rfl rfl

theorem trans {s t u : State} (h : Quiet s t) (k : Quiet t u) : Quiet s u where
  conditions := k.conditions.trans h.conditions
  mode := k.mode.trans h.mode
  flags := by
    obtain ⟨v, hv, ht⟩ := h.flags
    obtain ⟨w, hw, hu⟩ := k.flags
    exact ⟨v ||| w, or_and_zero v w _ hv hw, by rw [hu, ht, BitVec.or_assoc]⟩

/-- What reaches neither a condition nor the Fault Monitor may come before. -/
theorem after {s t u : State} (k : Quiet t u) (hconditions : t.conditions = s.conditions) (hfaults : t.faults = s.faults) :
    Quiet s u := (of_same hconditions hfaults).trans k

/-- What reaches neither a condition nor the Fault Monitor may follow. -/
theorem before {s t u : State} (k : Quiet s t) (hconditions : u.conditions = t.conditions) (hfaults : u.faults = t.faults) :
    Quiet s u := k.trans (of_same hconditions hfaults)

theorem ite {p : Prop} [Decidable p] {s t u : State} (h : p → Quiet s t) (k : ¬p → Quiet s u) :
    Quiet s (if p then t else u) := by
  split
  · exact h ‹_›
  · exact k ‹_›

/-- A report of one event (R175). -/
theorem raise {s t : State} {w : BitVec 24} (hw : w &&& conditionFlags = 0) (hconditions : t.conditions = s.conditions)
    (hfaults : t.faults = s.faults.raise w) : Quiet s t where
  conditions := hconditions
  mode := by rw [hfaults, raise_mode]
  flags := ⟨w, hw, by rw [hfaults, raise_flags]⟩

/-- The flags follow the conditions as they did (R176, R177). -/
theorem flagsFollow {s t : State} (h : Quiet s t) (hs : s.flagsFollow) : t.flagsFollow := by
  obtain ⟨w, hw, hflags⟩ := h.flags
  refine ⟨?_, fun hlive => ?_⟩
  · rw [h.conditions, hflags, and_not_eq_zero_iff]
    intro i hi
    simp [flag_of_condition hs hi]
  · rw [h.mode] at hlive
    rw [h.conditions, hflags, ← hs.2 hlive]
    refine BitVec.eq_of_getLsbD_eq fun i _ => ?_
    have hbit : w.getLsbD i = true → conditionFlags.getLsbD i = false := by
      intro hwi
      have hzero : (w &&& conditionFlags).getLsbD i = false := by simp [hw]
      simpa [hwi] using hzero
    cases hwi : w.getLsbD i with
    | false => simp [hwi]
    | true => simp [hbit hwi]

/-- The report adds nothing. -/
theorem report {s t : State} (h : Quiet s t) (hs : s.flagsFollow) : report s t = t :=
  report_quiet s t h.conditions (h.flagsFollow hs)

end Quiet

theorem quiet_setFlag {f : Flag} (hf : f.mask true &&& conditionFlags = 0) {s t : State}
    (hconditions : t.conditions = s.conditions) (hfaults : t.faults = s.faults) : Quiet s (t.setFlag f) :=
  .raise hf hconditions (by rw [← hfaults]; rfl)

/-! ### The shared operations -/

theorem grantPort_quiet (s : State) : Quiet s (grantPort s) := by
  have hconditions : (grantPort s).conditions = s.conditions := by apply conditions_congr <;> simp
  unfold grantPort at hconditions ⊢
  split
  · next hfree =>
    rw [if_pos hfree] at hconditions
    split at hconditions
    · exact .refl s
    · exact .raise (w := Flag.mask .refreshForced true) (by decide) hconditions rfl
    · exact .of_same hconditions rfl
  · exact .refl s

theorem portFreed_quiet (s : State) : Quiet s (portFreed s) := by
  unfold portFreed
  split
  · exact .of_same rfl rfl
  · exact (grantPort_quiet _).after rfl rfl

theorem arbitrate_quiet (s : State) : Quiet s (arbitrate s) :=
  .of_same (by apply conditions_congr <;> simp) (by simp)

theorem absorbRequest_quiet (coincident : Bool) (s : State) : Quiet s (absorbRequest coincident s) := by
  have hconditions : (absorbRequest coincident s).conditions = s.conditions := by apply conditions_congr <;> simp
  cases coincident with
  | true => exact .of_same hconditions rfl
  | false => exact .raise (w := Flag.mask .markerAbsorbed true) (by decide) hconditions rfl

theorem applyRequest_quiet (r : Request) (start : Nat) (s : State) : Quiet s (applyRequest r start s) := by
  have hconditions : (applyRequest r start s).conditions = s.conditions := by apply conditions_congr <;> simp
  unfold applyRequest at hconditions ⊢
  simp only at hconditions ⊢
  split
  · exact .of_same rfl rfl
  · next hclamped =>
    rw [if_neg hclamped] at hconditions
    exact .raise (w := Flag.mask .boundaryClamped true) (by decide) hconditions rfl

theorem considerRequests_quiet (queue : List Request) (s : State) : Quiet s (considerRequests queue s) := by
  induction queue generalizing s with
  | nil => exact .of_same rfl rfl
  | cons r rest ih =>
    rw [considerRequests_cons]
    split
    · exact .of_same rfl rfl
    · exact (absorbRequest_quiet _ s).trans (ih _)
    · exact (applyRequest_quiet _ _ s).trans (ih _)

theorem considerHead_quiet (s : State) : Quiet s (considerHead s) := considerRequests_quiet _ s

/-! ### Frames and settling -/

theorem consume_conditions (k : Nat) (g : GapList) :
    (g.consume k).active = g.active ∧ (g.consume k).overrun = g.overrun := by
  unfold GapList.consume
  repeat' split
  all_goals exact ⟨rfl, rfl⟩

theorem takeDueFrame_quiet (due : DueFrame) (s : State) : Quiet s (takeDueFrame due s) := by
  cases due with
  | trailer head => exact .of_same (by apply conditions_congr <;> simp [takeDueFrame]) (by simp [takeDueFrame])
  | gap head e =>
    refine (considerHead_quiet _).after ?_ (by simp)
    apply conditions_congr <;> simp [consume_conditions]
  | data head last =>
    refine .trans ?_ (considerHead_quiet _)
    exact (grantPort_quiet _).after rfl rfl

theorem quiet_settling (s : State) : SettlingKeeps (Quiet s) where
  memoryGap _ h := h.trans (.of_same (by apply conditions_congr <;> simp) (by simp))
  due due t _ h := h.trans (takeDueFrame_quiet due t)
  flush _ h := h.trans (.of_same (by apply conditions_congr <;> simp) (by simp))

theorem settleFrom_quiet (before s : State) : Quiet s (settleFrom before s) :=
  (quiet_settling s).settleFrom before s (.refl s)

/-! ### Commands -/

theorem exec_free {c : Instr} {s : State} (hc : resets c = false) (hr : s.resetHeld = false) :
    exec c s = .next (report s (settled c s)) := by
  rw [exec_eq_nextOf, nextOf_free hc hr]

/-- A command whose effect is quiet leaves just its effect and what settles with it. -/
theorem exec_of_quiet {c : Instr} {s : State} (hc : resets c = false) (hr : s.resetHeld = false) (hf : s.flagsFollow)
    (hq : Quiet s (effect c s)) : exec c s = .next (settled c s) := by
  have hsettled : Quiet s (settled c s) := by
    unfold settled
    exact .ite (fun _ => hq.trans (settleFrom_quiet _ _)) fun _ => hq
  rw [exec_free hc hr, hsettled.report hf]

/-- A quiet command after which nothing settles. -/
theorem exec_of_quiet_alone {c : Instr} {s : State} (hc : resets c = false) (hd : drains c = false)
    (hr : s.resetHeld = false) (hf : s.flagsFollow) (hq : Quiet s (effect c s)) : exec c s = .next (effect c s) := by
  have hsettled : settled c s = effect c s := by simp [settled, hd]
  rw [exec_of_quiet hc hr hf hq, hsettled]

/-- A command without effect. -/
theorem exec_of_no_effect {c : Instr} {s : State} (hc : resets c = false) (hr : s.resetHeld = false) (hf : s.flagsFollow)
    (he : effect c s = s) : exec c s = .next s := by
  have hsettled : settled c s = s := by
    unfold settled
    rw [he]
    split
    · exact settleFrom_same s s rfl
    · rfl
  rw [exec_of_quiet hc hr hf (he.symm ▸ .refl s), hsettled]

end Sys2Proof.Machine
end

section
/-! PROOFS. The resets and the management port (R118, R138, R168 to R174, R178, R180, R186, R188). -/

namespace Sys2Proof.Machine

/-! ### Lists -/

theorem nth_eq_getElem? {α : Type} : ∀ (l : List α) (n : Nat), nth l n = l[n]?
  | [], _ => rfl
  | _ :: _, 0 => rfl
  | _ :: rest, n + 1 => nth_eq_getElem? rest n

@[simp] theorem leBytes_length (size value : Nat) : (leBytes size value).length = size := by
  induction size generalizing value with
  | zero => rfl
  | succ size ih => rw [leBytes, List.length_cons, ih]

@[simp] theorem zeros_length (n : Nat) : (zeros n).length = n := List.length_replicate

theorem mapNth_replicate {α : Type} (x : α) (n k : Nat) : mapNth (fun _ => x) k (List.replicate n x) = List.replicate n x := by
  refine List.ext_getElem? fun i => ?_
  rw [getElem?_mapNth]
  split
  · rw [List.getElem?_replicate]
    split <;> rfl
  · rfl

/-! ### Power-on and RESET# -/

theorem isStationAddress_iff (straps : BitVec 4) :
    isStationAddress straps = true ↔ 1 ≤ straps.toNat ∧ straps.toNat ≤ 14 := by
  simp [isStationAddress]

/-- Settles O3, by evaluation of the state after reset. -/
theorem resetValues : Obligations.ResetValues := by
  refine ⟨by decide, by decide, by decide, by decide, by decide, by decide, ?_, by decide, by decide, by decide, ?_, rfl⟩
  · exact ⟨by decide, nofun, nofun, nofun⟩
  · exact ⟨by decide, nofun⟩

/-- A sample of the straps at the reset leaves every peer entry as it is: ABSENT. -/
theorem sampleStraps_freshStation (straps : BitVec 4) (s : State) :
    sampleStraps straps (freshStation s) =
      { State.reset with
        intake := { State.reset.intake with laneOut := s.intake.laneOut }
        station := { State.reset.station with deviceNumber := s.station.deviceNumber }
        spine :=
          { State.reset.spine with
            strapSample := straps
            ownAddress := if 1 ≤ straps.toNat ∧ straps.toNat ≤ 14 then some (straps.setWidth 8) else none }
        pending := s.pending } := by
  have hpeers : peersSampled straps State.reset.presence.peers = State.reset.presence.peers := by
    unfold peersSampled
    split
    · exact mapNth_replicate _ _ _
    · rfl
  have haddress : (freshStation s).addressSampled straps =
      if 1 ≤ straps.toNat ∧ straps.toNat ≤ 14 then some (straps.setWidth 8) else none := by
    simp only [State.addressSampled, isStationAddress_iff]
    rfl
  have hpresence : (freshStation s).presence = State.reset.presence := rfl
  rw [sampleStraps, haddress, hpresence, hpeers]
  rfl

/-- Settles O4: the held commands one by one, and the reset states as they are made. -/
theorem resetsStartAfresh : Obligations.ResetsStartAfresh := by
  refine ⟨fun c s hr hpower hassert hrelease hlane => ?_, fun s => ⟨_, rfl, rfl, rfl, rfl, fun _ => rfl⟩,
    fun straps s => ⟨_, rfl, rfl, sampleStraps_freshStation straps s⟩⟩
  have hc : resets c = false := by
    cases c with
    | powerOn straps => exact absurd rfl (hpower straps)
    | resetAssert => exact absurd rfl hassert
    | resetRelease straps => exact absurd rfl (hrelease straps)
    | _ => rfl
  have hheld : heldEffect c s = s := by
    cases c with
    | laneAlignmentChange lane out => exact absurd rfl (hlane lane out)
    | _ => rfl
  rw [exec_eq_nextOf, nextOf, hc, hr, hheld]
  rfl

/-! ### SOFT RESET -/

/-- Every condition that stands after a SOFT RESET stood before it: the index exhaustion and the thermal mode's alone. -/
theorem softReset_begins_nothing {s t : State} (hexhausted : t.intake.exhausted = s.intake.exhausted) (hgaps : t.gaps = {})
    (hthermal : t.memory.thermal = s.memory.thermal) (hconfig : t.station.config = none) (hhold : t.spine.hold = {})
    (hpeers : ∀ e ∈ t.presence.peers, e.phase = .absent) : begun s t = 0 := by
  have hlane : t.laneFault = false := by simp [State.laneFault, State.channels, hconfig]
  have hstale : t.somePeer .stale = false := by simp +contextual [State.somePeer, hpeers]
  have hmismatched : t.somePeer .mismatched = false := by simp +contextual [State.somePeer, hpeers]
  rw [begun, and_not_eq_zero_iff]
  intro i
  simp only [State.conditions, Flag.mask, hexhausted, hgaps, hthermal, hhold, hlane, hstale, hmismatched, BitVec.getLsbD_or]
  simp +contextual [or_imp]

/-- In LATCHED mode a report of nothing that begins adds nothing (R176). -/
theorem report_of_nothing_begun {before after : State} (hm : after.faults.mode = .latched) (h : begun before after = 0) :
    report before after = after := by
  rw [report, hm]
  simp only [h, raise_zero]

/-- Settles O5: the effect is exact, and nothing begins that the report could flag. -/
theorem softResetAbandons : Obligations.SoftResetAbandons := by
  intro s hr hp
  have heffect : settled .softReset s = answer [resultOk] (softResetStation s) := if_pos hp
  have habsent : ∀ e ∈ ({} : Presence).peers, e.phase = .absent := by decide
  have hbegun : begun s (answer [resultOk] (softResetStation s)) = 0 :=
    softReset_begins_nothing rfl rfl rfl rfl rfl habsent
  rw [exec_free rfl hr, heffect, report_of_nothing_begun rfl hbegun]
  rfl

/-! ### Transactions -/

/-- The command byte names the command as R186's table has it: evaluated for the 256 bytes. -/
theorem commandOf_eq (code : Byte) :
    commandOf code =
      (if code = 0x01 then .identify else if code = 0x02 then .commandByteReceived .loadConfig
       else if code = 0x03 then .readStatus else if code = 0x04 then .readFaults
       else if code = 0x05 then .commandByteReceived .setAlertMask else if code = 0x06 then .readCounters
       else if code = 0x07 then .commandByteReceived .readSegment
       else if code = 0x08 then .commandByteReceived .readGap
       else if code = 0x09 then .commandByteReceived .readPeer
       else if code = 0x0A then .commandByteReceived .rearmMarkers
       else if code = 0x0B then .stopRun else if code = 0x0C then .softReset else .unknownCommand code) := by
  revert code
  decide

theorem recordOf_toList (record : Vector Byte 16) : recordOf record.toList = record := by
  refine Vector.ext fun i hi => ?_
  simp [recordOf]

theorem onCommand_taken {s e : State} (h : s.port.phase = .command) : onCommand s e = e := if_pos h

theorem onCommand_ignored {s e : State} (h : s.port.phase ≠ .command) : onCommand s e = s := if_neg h

theorem onArguments_taken {c : ArgCommand} {s e : State} (h : s.port.phase = .arguments c) : onArguments c s e = e :=
  if_pos h

/-- A byte received in another state of the port than COMMAND is ignored (R170). -/
theorem commandOf_ignored (code : Byte) {s : State} (h : s.port.phase ≠ .command) :
    resets (commandOf code) = false ∧ effect (commandOf code) s = s := by
  have hignored (e : State) : onCommand s e = s := onCommand_ignored h
  unfold commandOf
  split
  case h_7 =>
    split
    · exact ⟨rfl, hignored _⟩
    · refine ⟨rfl, ?_⟩
      rw [effect, hignored, ite_self]
  all_goals exact ⟨rfl, hignored _⟩

/-- What a condition depends on, and the Fault Monitor. -/
def reportedParts : List Part := [.intake, .gaps, .memory, .spine, .presence, .station, .faults]

/-- A change of parts that no condition depends on is quiet. -/
theorem quiet_of_parts {parts : List Part} {s t : State} (h : sameBut parts s t) (hparts : ∀ p ∈ reportedParts, p ∉ parts) :
    Quiet s t := by
  have hsame (p : Part) (hp : p ∈ reportedParts) : p.same s t := h p (hparts p hp)
  have hintake : t.intake = s.intake := hsame .intake (by decide)
  have hgaps : t.gaps = s.gaps := hsame .gaps (by decide)
  have hmemory : t.memory = s.memory := hsame .memory (by decide)
  have hspine : t.spine = s.spine := hsame .spine (by decide)
  have hpresence : t.presence = s.presence := hsame .presence (by decide)
  have hstation : t.station = s.station := hsame .station (by decide)
  refine .of_same ?_ (hsame .faults (by decide))
  apply conditions_congr <;> simp only [hintake, hgaps, hmemory, hspine, hpresence, hstation]

/-- A command that reaches the port alone leaves just its effect. -/
theorem exec_of_port {c : Instr} {s : State} (hc : resets c = false) (hd : drains c = false) (hport : reach c = [.port])
    (hr : s.resetHeld = false) (hf : s.flagsFollow) : exec c s = .next (effect c s) :=
  exec_of_quiet_alone hc hd hr hf (quiet_of_parts (hport ▸ effect_sameBut c s) (by decide))

/-- Settles O6. -/
theorem transactionMoves : Obligations.TransactionMoves := by
  refine ⟨⟨commandOf_eq, ?_, ?_, ?_⟩, ?_, ?_⟩
  · intro c
    cases c <;> rfl
  · intro record straps
    rw [ArgCommand.taking, recordOf_toList]
  · exact fun b straps => ⟨rfl, rfl, rfl, rfl, rfl⟩
  · intro s hr hf
    refine ⟨fun hp => ?_, fun hp c => ?_, fun hp => ?_, fun hp code hcode => ?_, fun hp code => ?_⟩
    · rw [exec_of_port rfl rfl rfl hr hf, effect, if_pos hp]
      rfl
    · rw [exec_of_port rfl rfl rfl hr hf, effect, onCommand_taken hp]
      rfl
    · rw [exec_of_port rfl rfl rfl hr hf, effect, if_pos hp]
    · have hunknown : ¬(1 ≤ code.toNat ∧ code.toNat ≤ 12) := by
        rcases hcode with rfl | hcode
        · decide
        · omega
      rw [exec_of_port rfl rfl rfl hr hf, effect, if_neg hunknown, onCommand_taken hp]
      rfl
    · have hnot : s.port.phase ≠ .command := by rcases hp with hp | hp <;> simp [hp]
      obtain ⟨hc, heffect⟩ := commandOf_ignored code hnot
      exact exec_of_no_effect hc hr hf heffect
  · intro sent s
    refine ⟨fun h => ?_, fun hr => ⟨fun h => ?_, fun hp hsent => ?_⟩⟩
    · rcases h with h | h <;> simp [State.sdo, h]
    · rcases h with h | ⟨c, h⟩ | h <;> simp [State.sdo, hr, h]
    · simp [State.sdo, hr, hp, byteAt, nth_eq_getElem?, hsent]

/-! ### Replies -/

/-- Settles O7: the two replies as their records are laid out. -/
theorem identifyAndStatusReplies : Obligations.IdentifyAndStatusReplies := by
  intro s hr hf hp
  constructor
  · rw [exec_of_port rfl rfl rfl hr hf, effect, onCommand_taken hp]
    rfl
  · rw [exec_of_port rfl rfl rfl hr hf, effect, onCommand_taken hp]
    cases hthermal : s.memory.thermal <;> cases hphase : s.intake.phase <;>
      simp [answer, statusReply, thermalCode, State.reportedPoint, State.held, resultOk, hthermal, hphase]

@[simp] theorem segmentReply_length (g : Option Segment) : (segmentReply g).length = 43 := by
  cases g with
  | none => simp [segmentReply]
  | some g => cases hlevels : g.levels <;> simp [segmentReply, hlevels]

@[simp] theorem gapReply_length (e : Option GapEntry) : (gapReply e).length = 30 := by
  cases e with
  | none => simp [gapReply]
  | some e => cases hheld : e.heldPart <;> simp [gapReply, hheld]

@[simp] theorem peerRecord_length (s : State) (address : Byte) : (peerRecord s address).length = 16 := by
  unfold peerRecord
  split
  · cases s.presence.ingest <;> simp [ingestReply]
  · split <;> simp [peerReply]

theorem segmentAt_outside {s : State} {position : Nat} (h : position = 0 ∨ 63 < position) : s.segmentAt position = none :=
  if_pos h

theorem segmentAt_inside {s : State} {position : Nat} (hlow : 1 ≤ position) (hhigh : position ≤ 63) :
    s.segmentAt position = s.table.live[(position + 63 - s.table.head) % 63]? := by
  rw [State.segmentAt, if_neg (by omega), nth_eq_getElem?]

theorem peerRecord_peer {s : State} {address : Byte} {e : PeerEntry} (hlow : 1 ≤ address.toNat)
    (hhigh : address.toNat ≤ 14) (hown : s.spine.ownAddress ≠ some address)
    (he : s.presence.peers[address.toNat - 1]? = some e) : peerRecord s address = peerReply e := by
  have hzero : address ≠ 0 := by
    rintro rfl
    exact absurd hlow (by decide)
  rw [peerRecord, if_neg hzero, if_neg (by simp [hown]; omega), nth_eq_getElem?, he, Option.getD_some]

theorem peerRecord_zero {s : State} {address : Byte} (hzero : address ≠ 0)
    (h : 15 ≤ address.toNat ∨ s.spine.ownAddress = some address) : peerRecord s address = zeros 16 := by
  rw [peerRecord, if_neg hzero, if_pos h]

/-- Settles O8: each reply as its record is laid out. -/
theorem tableReads : Obligations.TableReads := by
  intro s hr hf
  refine ⟨fun hp => ⟨_, ?_, rfl⟩, fun hp position => ⟨segmentReply (s.segmentAt position.toNat), ?_, segmentReply_length _, ?_, ?_⟩,
    fun hp position => ⟨gapReply s.gaps.entries[position.toNat]?, ?_, gapReply_length _, ?_, ?_⟩,
    fun hp address => ⟨peerRecord s address, ?_, peerRecord_length _ _, ?_, ?_, ?_, ?_, ?_⟩⟩
  · rw [exec_of_port rfl rfl rfl hr hf, effect, onCommand_taken hp]
    rfl
  · rw [exec_of_port rfl rfl rfl hr hf, effect, onArguments_taken hp]
    rfl
  · intro h
    rw [segmentAt_outside (by simpa [← BitVec.toNat_inj] using h)]
    rfl
  · intro hlow hhigh _ _
    rw [segmentAt_inside hlow hhigh]
    refine ⟨fun hnone => by rw [hnone]; rfl, fun g hg => ?_⟩
    rw [hg]
    obtain ⟨origin, seq, cause, start, ending, requested, dataFrames, gapFrames, gapSamples, levels, absorbed⟩ := g
    cases ending <;> cases requested <;> cases levels <;> cases cause <;>
      simp [segmentReply, segmentCauseCode, bit] <;> rfl
  · rw [exec_of_port rfl rfl rfl hr hf, effect, onArguments_taken hp, nth_eq_getElem?]
    rfl
  · intro h
    rw [List.getElem?_eq_none h]
    rfl
  · intro e he
    rw [he]
    cases hheld : e.heldPart <;> simp [gapReply, dropCode, bit, zeros, hheld] <;> rfl
  · rw [exec_of_port rfl rfl rfl hr hf, effect, onArguments_taken hp]
    rfl
  · intro hzero hnone
    rw [peerRecord, if_pos hzero, hnone]
    rfl
  · intro r hzero hsome
    rw [peerRecord, if_pos hzero, hsome]
    cases hhold : r.hold <;> simp [ingestReply, bit, zeros, hhold]
  · intro h
    refine peerRecord_zero ?_ (.inl h)
    rintro rfl
    exact absurd h (by decide)
  · intro hlow _ hown
    refine peerRecord_zero ?_ (.inr hown)
    rintro rfl
    exact absurd hlow (by decide)
  · intro e hlow hhigh hown he
    rw [peerRecord_peer hlow hhigh hown he]
    cases hphase : e.phase <;> simp [peerReply, peerCode, zeros, hphase]

/-! ### The flags, the clear list and ALERT# -/

/-- The flags at the rise of SCS# (R178). -/
theorem endTransaction_flags (s : State) :
    (endTransaction s).faults.flags =
      if s.port.phase = .done then s.faults.flags &&& ~~~(s.faults.clearList.getD 0 &&& ~~~s.conditions)
      else s.faults.flags := by
  unfold endTransaction
  simp only
  split
  · next list hdone hlist => simp [hdone, hlist, State.clearable]
  · next hother =>
    split
    · next hdone =>
      cases hlist : s.faults.clearList with
      | none => simp
      | some list => exact absurd hlist (hother list hdone)
    · exact BitVec.and_allOnes

/-- No flag of a condition that stands is cleared. -/
theorem endTransaction_flagsFollow {s : State} (h : s.flagsFollow) : (endTransaction s).flagsFollow := by
  have hconditions : (endTransaction s).conditions = s.conditions := rfl
  obtain ⟨cleared, hcleared, hflags⟩ : ∃ cleared : BitVec 24,
      (∀ i, s.conditions.getLsbD i = true → cleared.getLsbD i = false) ∧
        (endTransaction s).faults.flags = s.faults.flags &&& ~~~cleared := by
    rw [endTransaction_flags]
    split
    · refine ⟨_, fun i hi => ?_, rfl⟩
      simp [hi]
    · exact ⟨0, fun _ _ => BitVec.getLsbD_zero, BitVec.and_allOnes.symm⟩
  rw [State.flagsFollow, hconditions, hflags, and_not_eq_zero_iff]
  have hbit (i : Nat) : (s.faults.flags &&& ~~~cleared).getLsbD i = (s.faults.flags.getLsbD i && !cleared.getLsbD i) := by
    rw [BitVec.getLsbD_and, BitVec.getLsbD_not]
    by_cases hlt : i < 24
    · simp [hlt]
    · simp [BitVec.getLsbD_of_ge s.faults.flags i (by omega)]
  refine ⟨fun i hi => ?_, fun hlive => BitVec.eq_of_getLsbD_eq fun i _ => ?_⟩
  · rw [hbit, flag_of_condition h hi, hcleared i hi]
    rfl
  · have hcondition : s.conditions.getLsbD i = (s.faults.flags.getLsbD i && conditionFlags.getLsbD i) := by
      rw [← h.2 hlive, BitVec.getLsbD_and]
    rw [BitVec.getLsbD_and, hbit]
    cases hi : s.conditions.getLsbD i with
    | true =>
      rw [hcleared i hi, Bool.not_false, Bool.and_true, ← hcondition, hi]
    | false =>
      rw [hi] at hcondition
      rw [Bool.and_right_comm, ← hcondition, Bool.false_and]

/-- Settles O9. -/
theorem faultReadAndMask : Obligations.FaultReadAndMask := by
  refine ⟨fun s hr hf => ⟨fun hp => ?_, fun hp mask => ⟨_, ?_, rfl, ?_⟩⟩, fun s hr hf => ?_⟩
  · have heffect : effect .readFaults s = snapshotFaults s := onCommand_taken hp
    have hquiet : Quiet s (snapshotFaults s) := ⟨rfl, rfl, 0, by simp, by simp [snapshotFaults]⟩
    rw [exec_of_quiet_alone rfl rfl hr hf (heffect ▸ hquiet), heffect]
    cases hmode : s.faults.mode <;> simp [snapshotFaults, answer, faultsReply, faultModeCode, resultOk, hmode]
  · have heffect : effect (.setAlertMask mask) s =
        answer [resultOk] { s with faults := { s.faults with alertMask := mask.setWidth 6 } } := onArguments_taken hp
    rw [exec_of_quiet_alone rfl rfl hr hf (heffect ▸ ⟨rfl, rfl, 0, by simp, by simp⟩), heffect]
    rfl
  · have hmask (g : Nat) (hg : g < 6) : (mask.setWidth 6).getLsbD g = mask.getLsbD g := by simp [hg]
    simp only [State.alert, hr, Bool.not_false, Bool.true_and, List.any_eq_true, List.mem_range, Bool.and_eq_true,
      Bool.not_eq_true', decide_eq_true_eq]
    refine exists_congr fun g => and_congr_right fun hg => ?_
    rw [hmask g hg]
  · have hreport : report s (endTransaction s) = endTransaction s :=
      report_quiet s (endTransaction s) rfl (endTransaction_flagsFollow hf)
    have hsettled : settled .scsRise s = endTransaction s := rfl
    rw [exec_free rfl hr, hsettled, hreport, ← endTransaction_flags]
    rfl

end Sys2Proof.Machine
end

section
/-! PROOFS. The acceptance and the refusal of a configuration, run start, STOP outside a run, the flush completion, and the lane
alignment (R2, R5, R15, R31, R118, R146, R159 to R166). -/

namespace Sys2Proof.Machine

/-! ### What a command reaches in all -/

theorem report_sameBut (before s : State) : sameBut [.faults] s (report before s) := by
  intro p hp
  cases p <;> simp [Part.same] at hp ⊢

theorem settleFrom_sameBut (before s : State) : sameBut drainParts s (settleFrom before s) := by
  intro p hp
  cases p <;> simp [Part.same, drainParts] at hp ⊢

/-- A command after which nothing settles reaches what its effect reaches, and the flags. -/
theorem report_settled_sameBut {c : Instr} {s : State} {parts : List Part} (hd : drains c = false)
    (h : sameBut parts s (effect c s)) (hfaults : Part.faults ∈ parts) : sameBut parts s (report s (settled c s)) := by
  have hsettled : settled c s = effect c s := by simp [settled, hd]
  rw [hsettled]
  exact sameBut_trans h (sameBut_mono (report_sameBut _ _) (by simpa using hfaults))

/-- A command that drains reaches what its effect reaches, and what settles with it. -/
theorem report_drained_sameBut {c : Instr} {s : State} {parts : List Part} (h : sameBut parts s (effect c s))
    (hparts : drainParts ⊆ parts) : sameBut parts s (report s (settled c s)) := by
  have hsettled : sameBut parts s (settled c s) := by
    unfold settled
    split
    · exact sameBut_trans h (sameBut_mono (settleFrom_sameBut _ _) hparts)
    · exact h
  exact sameBut_trans hsettled (sameBut_mono (report_sameBut _ _) (by simpa using hparts (by simp [drainParts])))

theorem report_settled_flagsFollow {c : Instr} {s : State} (hc : resets c = false) (hr : s.resetHeld = false)
    (h : s.flagsFollow) : (report s (settled c s)).flagsFollow := by
  have hnext := nextOf_flagsFollow hc hr h
  rwa [nextOf_free hc hr] at hnext

/-- In LATCHED mode a report of nothing that begins leaves the Fault Monitor as it is (R176). -/
theorem report_faults_of_nothing_begun {before after : State} (hm : after.faults.mode = .latched)
    (h : begun before after = 0) : (report before after).faults = after.faults := by
  rw [report_of_nothing_begun hm h]

/-- Nothing begins where every condition that stands stood before. -/
theorem begun_eq_zero {s t : State} (hexhausted : t.intake.exhausted = true → s.intake.exhausted = true)
    (hactive : t.gaps.active = true → s.gaps.active = true) (hoverrun : t.gaps.overrun = true → s.gaps.overrun = true)
    (hlane : t.laneFault = true → s.laneFault = true) (hthermal : t.memory.thermal = s.memory.thermal)
    (hring : t.spine.hold.ringOpen = true → s.spine.hold.ringOpen = true)
    (habsent : t.spine.hold.archiveAbsent = true → s.spine.hold.archiveAbsent = true)
    (hclash : t.spine.hold.addressClash = true → s.spine.hold.addressClash = true)
    (hstale : t.somePeer .stale = true → s.somePeer .stale = true)
    (hmismatched : t.somePeer .mismatched = true → s.somePeer .mismatched = true)
    (hhold : t.spine.hold.archiveHold = true → s.spine.hold.archiveHold = true) : begun s t = 0 := by
  have hmask {f : Flag} {p q : Bool} (hpq : p = true → q = true) {i : Nat} (hi : (f.mask p).getLsbD i = true) :
      (f.mask q).getLsbD i = true := by
    cases p with
    | false => simp [Flag.mask] at hi
    | true => rwa [hpq rfl]
  rw [begun, and_not_eq_zero_iff]
  intro i
  simp only [State.conditions, BitVec.getLsbD_or, Bool.or_eq_true, hthermal]
  rintro (((((((((((h | h) | h) | h) | h) | h) | h) | h) | h) | h) | h) | h)
  · simp only [hmask hexhausted h, true_or]
  · simp only [hmask hactive h, true_or, or_true]
  · simp only [hmask hoverrun h, true_or, or_true]
  · simp only [hmask hlane h, true_or, or_true]
  · simp only [h, true_or, or_true]
  · simp only [h, true_or, or_true]
  · simp only [hmask hring h, true_or, or_true]
  · simp only [hmask habsent h, true_or, or_true]
  · simp only [hmask hclash h, true_or, or_true]
  · simp only [hmask hstale h, true_or, or_true]
  · simp only [hmask hmismatched h, true_or, or_true]
  · simp only [hmask hhold h, or_true]

/-! ### The configuration record -/

theorem configurationOf_line (record : List Byte) (line : Fin 4) :
    (configurationOf record).lines.get line = lineSetupOf (byteAt record (8 + line.val)) := by
  match line with
  | 0 => rfl
  | 1 => rfl
  | 2 => rfl
  | 3 => rfl

/-- Codes in their ranges are kept as they are (R159, R187). -/
theorem codesInRange_codes {record : List Byte} (h : codesInRange record = true) :
    (byteAt record 1).toNat ≤ 3 ∧ (byteAt record 2).toNat ≤ 3 ∧ (byteAt record 3).toNat ≤ 2 ∧
      (byteAt record 4).toNat ≤ 2 ∧ (byteAt record 5).toNat ≤ 3 := by
  simp only [codesInRange, Bool.and_eq_true, decide_eq_true_eq] at h
  tauto

/-- The first test of R159 that a record fails. -/
theorem recordRejection_eq (record : List Byte) (straps : BitVec 4) :
    recordRejection record straps =
      (if byteAt record 0 ≠ 1 ∨ codesInRange record = false then .badCode
       else if straps.toNat = 0 ∨ straps.toNat = 15 then .badAddress
       else if ((byteAt record 3).toNat = 0 ∧ (byteAt record 4).toNat = 2) ∨
            ((byteAt record 3).toNat = 2 ∧ (byteAt record 4).toNat = 0) then .reservedCombination
       else if 4096 * 2 ^ (byteAt record 4).toNat < 1024 * 2 ^ (byteAt record 1).toNat then .payloadTooSmall
       else .none) := by
  have haddress : (!isStationAddress straps) = true ↔ straps.toNat = 0 ∨ straps.toNat = 15 := by
    have hlt := straps.isLt
    rw [Bool.not_eq_true', ← Bool.not_eq_true, isStationAddress_iff]
    omega
  have hpair (spineRate payloadCode : Nat) : reservedPair spineRate payloadCode = true ↔
      spineRate = 0 ∧ payloadCode = 2 ∨ spineRate = 2 ∧ payloadCode = 0 := by
    simp [reservedPair]
  unfold recordRejection
  by_cases hversion : byteAt record 0 = 1
  · rw [if_neg (not_not.2 hversion)]
    cases hcodes : codesInRange record with
    | false => simp
    | true =>
      have hnone : ¬(byteAt record 0 ≠ 1 ∨ true = false) := by simpa using hversion
      rw [if_neg (by simp), if_neg hnone]
      exact if_congr haddress rfl (if_congr (hpair _ _) rfl rfl)
  · rw [if_pos hversion, if_pos (.inl hversion)]

/-! ### The sample of the straps -/

theorem addressSampled_eq (straps : BitVec 4) (s : State) :
    s.addressSampled straps =
      if 1 ≤ straps.toNat ∧ straps.toNat ≤ 14 then some (straps.setWidth 8)
      else if s.station.phase = .unconfigured then none else s.spine.ownAddress := by
  simp only [State.addressSampled, isStationAddress_iff]

theorem peersSampled_eq (straps : BitVec 4) (peers : List PeerEntry) :
    peersSampled straps peers =
      if 1 ≤ straps.toNat ∧ straps.toNat ≤ 14 then peers.set (straps.toNat - 1) { phase := .absent } else peers := by
  simp only [peersSampled, isStationAddress_iff, mapNth_eq_modify, List.set_eq_modify]

/-- The sample makes no peer entry STALE or MISMATCHED. -/
theorem somePeer_sampled {phase : PeerPhase} (hphase : phase ≠ .absent) {straps : BitVec 4} {s t : State}
    (hpeers : t.presence.peers = peersSampled straps s.presence.peers) (h : t.somePeer phase = true) :
    s.somePeer phase = true := by
  simp only [State.somePeer, List.any_eq_true, hpeers, beq_iff_eq] at h ⊢
  obtain ⟨e, he, rfl⟩ := h
  unfold peersSampled at he
  split at he
  · rcases mem_mapNth he with he | ⟨_, _, rfl⟩
    · exact ⟨e, he, rfl⟩
    · exact absurd rfl hphase
  · exact ⟨e, he, rfl⟩

/-- No condition begins with the sample of the straps alone. -/
theorem begun_of_sampled {straps : BitVec 4} {s t : State} (hpeers : t.presence.peers = peersSampled straps s.presence.peers)
    (hintake : t.intake = s.intake) (hgaps : t.gaps = s.gaps) (hmemory : t.memory = s.memory)
    (hhold : t.spine.hold = s.spine.hold) (hconfig : t.station.config = s.station.config) : begun s t = 0 := by
  have hlane : t.laneFault = s.laneFault := by simp only [State.laneFault, State.channels, hintake, hconfig]
  exact begun_eq_zero (by rw [hintake]; exact id) (by rw [hgaps]; exact id) (by rw [hgaps]; exact id)
    (by rw [hlane]; exact id) (by rw [hmemory]) (by rw [hhold]; exact id) (by rw [hhold]; exact id)
    (by rw [hhold]; exact id) (somePeer_sampled (by decide) hpeers) (somePeer_sampled (by decide) hpeers)
    (by rw [hhold]; exact id)

end Sys2Proof.Machine
end

section
/-! PROOFS. The acceptance and the refusal of a configuration, run start, STOP outside a run, the flush completion, and the lane
alignment: the statements (R2, R5, R15, R31, R118, R146, R159 to R166). -/

namespace Sys2Proof.Machine

/-! ### The acceptance of a configuration -/

section Accepted

variable {record : Vector Byte 16} {straps : BitVec 4} {s : State}

/-- The state an accepted record leaves, before the report. -/
def acceptedState (record : Vector Byte 16) (straps : BitVec 4) (s : State) : State :=
  answer [resultOk] (acceptConfiguration (configurationOf record.toList) (sampleStraps straps s))

theorem effect_loadConfig_accepted (hp : s.port.phase = .arguments .loadConfig) (hphase : s.station.phase = .unconfigured)
    (haccepted : recordRejection record.toList straps = .none) :
    effect (.loadConfig record straps) s = acceptedState record straps s := by
  rw [effect, onArguments_taken hp, loadConfiguration, if_pos hphase, haccepted]
  rfl

/-- The claims of the port at the acceptance: owed is 0, so no refresh is forced (R27, R31). -/
theorem acceptedState_counters : (acceptedState record straps s).counters = s.counters := by
  have hnotForced (m : CaptureMemory) (h : m.owed = 0) : portChoice m ≠ some (.refresh .forced) := by
    rw [portChoice_firstClaim, h]
    unfold firstClaim
    repeat' split
    all_goals simp_all
  rw [acceptedState, answer_counters, acceptConfiguration, arbitrate_counters]
  refine (grantPort_flags _ (hnotForced _ ?_)).2
  rfl

theorem acceptedState_op_free (hop : s.memory.op = none) (hstaging : s.memory.staging = [])
    (hrequest : s.memory.readRequest = none) :
    (acceptedState record straps s).memory.op = some { op := .refresh .pullIn } := by
  rw [acceptedState, answer_memory, acceptConfiguration, arbitrate_memory]
  refine (grantPort_op _ ?_).trans ?_
  · exact ⟨rfl, hop⟩
  · simp [portChoice, hstaging, hrequest]

theorem acceptedState_op_busy (hop : s.memory.op.isSome = true) :
    (acceptedState record straps s).memory.op = s.memory.op := by
  rw [acceptedState, answer_memory, acceptConfiguration, arbitrate_memory, grantPort_busy]
  · rfl
  · simp [Option.isSome_iff_ne_none.1 hop]

end Accepted

/-- Settles O11: the five tests passed, the acceptance block by block. -/
theorem configurationAccepted : Obligations.ConfigurationAccepted := by
  intro record straps s hr hf hp hphase hversion hcodes hlow hhigh hpair₀ hpair₂ hsize
  have haccepted : recordRejection record.toList straps = .none := by
    rw [recordRejection_eq, if_neg (by simp [hversion, hcodes]), if_neg (by omega), if_neg (by omega), if_neg (by omega)]
  have heffect := effect_loadConfig_accepted hp hphase haccepted
  have hsettled : settled (.loadConfig record straps) s = acceptedState record straps s := heffect
  have hfollow : (report s (acceptedState record straps s)).flagsFollow :=
    hsettled ▸ report_settled_flagsFollow rfl hr hf
  obtain ⟨hchannel, hrate, hspine, hpayload, hhold⟩ := codesInRange_codes hcodes
  refine ⟨report s (acceptedState record straps s), configurationOf record.toList, by rw [exec_free rfl hr, hsettled],
    ?_, ?_, ?_, ?_, ?_, ?_, ?_, ?_, ?_, ?_, ?_, ?_, ?_, ?_, ?_, ?_, ?_, ?_, ?_, ?_, ?_, hfollow, ?_⟩
  · simp [acceptedState, acceptConfiguration]
  · exact Nat.mod_eq_of_lt (by omega)
  · exact Nat.mod_eq_of_lt (by omega)
  · exact Nat.mod_eq_of_lt (by omega)
  · exact Nat.mod_eq_of_lt (by omega)
  · exact Nat.mod_eq_of_lt (by omega)
  · rfl
  · intro line
    rw [configurationOf_line]
    exact ⟨rfl, rfl, rfl, rfl⟩
  · have hcode : (configurationOf record.toList).channelCode.val = (byteAt record.toList 1).toNat :=
      Nat.mod_eq_of_lt (by omega)
    simp [State.capacity, acceptedState, acceptConfiguration, channelsOfCode, Config.ringBlocks, hcode]
  · simp [acceptedState, acceptConfiguration, addressSampled_eq, hlow, hhigh]
  · simp [acceptedState, acceptConfiguration]
  · simp [acceptedState, acceptConfiguration, sampleStraps]
  · simp [acceptedState, acceptConfiguration]
  · simp [acceptedState, acceptConfiguration]
  · rw [report_memory]
    cases hthermal : s.memory.thermal <;> simp [acceptedState, acceptConfiguration, refreshInterval, hthermal]
  · intro hop hstaging hrequest
    rw [report_memory]
    exact acceptedState_op_free hop hstaging hrequest
  · intro hop
    rw [report_memory]
    exact acceptedState_op_busy hop
  · simp [acceptedState, acceptConfiguration, sampleStraps, peersSampled_eq, hlow, hhigh]
  · intro line
    rw [report_markers]
    simp only [acceptedState, acceptConfiguration, answer_markers, arbitrate_markers, grantPort_markers]
    match line with
    | 0 | 1 | 2 | 3 => rfl
  · rw [report_port]
    rfl
  · simp [acceptedState, acceptConfiguration]
  · intro part hpart
    by_cases hcounters : part = .counters
    · subst hcounters
      exact (report_counters _ _).trans acceptedState_counters
    · have hsame := report_settled_sameBut (parts := reach (.loadConfig record straps)) rfl (effect_sameBut _ s) (by simp [reach])
      rw [hsettled] at hsame
      exact hsame part (by simpa [reach, hcounters] using hpart)

/-! ### The refusal of a configuration -/

/-- Settles O12: the straps are sampled, and no condition begins. -/
theorem configurationRefused : Obligations.ConfigurationRefused := by
  intro record straps s hr hf hp
  have hfollow (t : State) (ht : settled (.loadConfig record straps) s = t) : (report s t).flagsFollow :=
    ht ▸ report_settled_flagsFollow rfl hr hf
  have hsame (t : State) (ht : settled (.loadConfig record straps) s = t) {parts : List Part} (h : sameBut parts s t)
      (hfaults : Part.faults ∈ parts) : sameBut parts s (report s t) :=
    sameBut_trans h (sameBut_mono (report_sameBut _ _) (by simpa using hfaults))
  refine ⟨fun hphase => ?_, fun hphase reason hreason hfirst => ?_⟩
  · have hsettled : settled (.loadConfig record straps) s = answer [resultRefusedState] (sampleStraps straps s) := by
      have heffect : settled (.loadConfig record straps) s = effect (.loadConfig record straps) s := rfl
      rw [heffect, effect, onArguments_taken hp, loadConfiguration, if_neg hphase]
    refine ⟨_, by rw [exec_free rfl hr, hsettled], ?_, ?_, report_port _ _, fun hmode => ?_, hfollow _ hsettled, hsame _ hsettled ?_ ?_⟩
    · simp [sampleStraps, addressSampled_eq, hphase]
    · simp [sampleStraps, peersSampled_eq]
    · exact report_faults_of_nothing_begun hmode (begun_of_sampled rfl rfl rfl rfl rfl rfl)
    · exact answer_sameBut _ (sameBut_mono (sampleStraps_sameBut straps s) (by simp)) (by simp)
    · simp
  · obtain ⟨t, ht⟩ : ∃ t : State, t = answer [resultRefusedConfig, rejectionCode reason]
        (State.setFlag { sampleStraps straps s with
          station := { (sampleStraps straps s).station with lastRejection := reason } } .configRejected) := ⟨_, rfl⟩
    have hsettled : settled (.loadConfig record straps) s = t := by
      have heffect : settled (.loadConfig record straps) s = effect (.loadConfig record straps) s := rfl
      rw [heffect, effect, onArguments_taken hp, loadConfiguration, if_pos hphase, recordRejection_eq, ← hfirst, ht]
      cases reason with
      | none => exact absurd rfl hreason
      | _ => rfl
    have hbegun : begun s t = 0 := by
      rw [ht]
      exact begun_of_sampled rfl rfl rfl rfl rfl rfl
    have hfaults : t.faults = s.faults.raise (Flag.mask .configRejected true) := by
      rw [ht]
      rfl
    refine ⟨_, by rw [exec_free rfl hr, hsettled], ?_, ?_, ?_, ?_, ?_, fun hmode => ?_, hfollow _ hsettled, hsame _ hsettled ?_ ?_⟩
    · simp [ht, sampleStraps, addressSampled_eq, hphase]
    · simp [ht, sampleStraps, peersSampled_eq]
    · simp [ht]
    · rw [report_port, ht]
      cases reason <;> rfl
    · have hbit : t.faults.flags.getLsbD 2 = true := by
        rw [hfaults, raise_flags, BitVec.getLsbD_or]
        simp [Flag.mask, Flag.index]
      have hother : conditionFlags.getLsbD 2 = false := by decide
      rw [report_flags]
      split
      · rw [BitVec.getLsbD_or, hbit]
        rfl
      · rw [BitVec.getLsbD_or, BitVec.getLsbD_and, BitVec.getLsbD_not, hbit, hother]
        rfl
    · have hlatched : t.faults.mode = .latched := by rw [hfaults, raise_mode, hmode]
      rw [report_faults_of_nothing_begun hlatched hbegun, hfaults]
    · rw [ht]
      refine answer_sameBut _ (sameBut_trans (sameBut_mono (sampleStraps_sameBut straps s) (by simp)) ?_) (by simp)
      intro p hpart
      cases p <;> simp [Part.same] at hpart ⊢
    · simp

/-! ### START -/

/-- Settles O13: the count and the flag, and nothing begins or ends. -/
theorem startMissed : Obligations.StartMissed := by
  intro s hr hf hphase
  have heffect : effect .startEdge s =
      State.setFlag { s with station := { s.station with startCount := s.station.startCount + 1 } } .startMissed := by
    rw [effect, takeStart]
    rcases hphase with h | h | h <;> simp only [h]
  have hquiet : Quiet s (effect .startEdge s) := by
    rw [heffect]
    exact quiet_setFlag (by decide) rfl rfl
  refine ⟨_, exec_of_quiet_alone rfl rfl hr hf hquiet, heffect, ?_, fun hunconfigured => ?_, fun hconfigured => ?_⟩
  · rw [heffect, setFlag_flags, BitVec.getLsbD_or]
    simp [Flag.mask, Flag.index]
  · rw [heffect]
    simp [State.runTag, hunconfigured]
  · rw [heffect]
    rcases hphase with h | h | h
    · exact absurd h hconfigured
    · simp [State.runTag, h]
    · simp [State.runTag, h]

/-- Settles O14: a run begins in every block, and no condition begins with it. -/
theorem startBeginsRun : Obligations.StartBeginsRun := by
  intro s hr hf hphase
  obtain ⟨t, ht⟩ : ∃ t : State,
    t = beginRun { s with station := { s.station with startCount := s.station.startCount + 1 } } := ⟨_, rfl⟩
  have hsettled : settled .startEdge s = t := by
    have heffect : settled .startEdge s = takeStart s := rfl
    rw [heffect, takeStart, ht]
    rcases hphase with h | h | h <;> simp only [h]
  have hfollow : (report s t).flagsFollow := hsettled ▸ report_settled_flagsFollow rfl hr hf
  have hbegun : begun s t = 0 := by
    rw [ht]
    exact begun_eq_zero nofun nofun nofun id rfl id id id id id id
  refine ⟨report s t, by rw [exec_free rfl hr, hsettled], ?_, ?_, ?_, ?_, ?_, ?_, ?_, ?_, ?_, ?_, ?_, fun hmode => ?_, hfollow, ?_⟩
  · simp [ht, beginRun]
  · simp [ht, beginRun, State.runTag]
  · simp [ht, beginRun, State.reset]
  · simp [ht, beginRun]
  · simp [ht, beginRun, State.reset]
  · simp [ht, beginRun]
  · simp [ht, beginRun]
  · simp [ht, beginRun]
  · intro line
    rw [report_markers, ht]
    simp only [beginRun, armedLines, PerLine.get_tabulate]
    have hsetup : State.enabledSetup { s with station := { s.station with startCount := s.station.startCount + 1 } } line =
        s.enabledSetup line := rfl
    rw [hsetup]
    split <;> rfl
  · simp [ht, beginRun, runStartTable]
  · simp [ht, beginRun]
  · have hlatched : t.faults.mode = .latched := by rw [ht]; exact hmode
    rw [report_faults_of_nothing_begun hlatched hbegun, ht]
    rfl
  · have hsame := report_settled_sameBut (parts := reach .startEdge) rfl (effect_sameBut .startEdge s) (by simp [reach])
    rwa [hsettled] at hsame

/-! ### STOP outside a run and the held STOP -/

/-- A change that the choice of a frame and the flush completion do not see, and no condition either. -/
theorem exec_of_unseen {c : Instr} {s : State} (hc : resets c = false) (hr : s.resetHeld = false) (hf : s.flagsFollow)
    (hview : s.drainView = (effect c s).drainView) (hq : Quiet s (effect c s)) : exec c s = .next (effect c s) := by
  have hsettled : settled c s = effect c s := by
    unfold settled
    split
    · exact settleFrom_same _ _ hview
    · rfl
  rw [exec_of_quiet hc hr hf hq, hsettled]

/-- Settles O15. -/
theorem stopOutsideRunOrHeld : Obligations.StopOutsideRunOrHeld := by
  intro s hr hf
  refine ⟨fun hphase => ⟨?_, fun hp => ?_⟩, fun hphase hpoint => ⟨?_, fun hp => ?_⟩⟩
  · exact exec_of_no_effect rfl hr hf (if_neg hphase)
  · have heffect : effect .stopRun s = answer [resultRefusedState] s := by
      rw [effect, onCommand_taken hp, if_neg hphase]
    rw [exec_of_unseen rfl hr hf (heffect ▸ rfl) (heffect ▸ .of_same rfl rfl), heffect]
    rfl
  · have heffect : effect .stopEdge s = { s with intake := { s.intake with stopHeld := true } } := by
      rw [effect, if_pos hphase, takeStop, if_pos hpoint]
    rw [exec_of_unseen rfl hr hf (heffect ▸ rfl) (heffect ▸ .of_same rfl rfl), heffect]
  · have heffect : effect .stopRun s =
        answer [resultOk] { s with intake := { s.intake with stopHeld := true } } := by
      rw [effect, onCommand_taken hp, if_pos hphase, takeStop, if_pos hpoint]
    rw [exec_of_unseen rfl hr hf (heffect ▸ rfl) (heffect ▸ .of_same rfl rfl), heffect]
    rfl

/-! ### The flush completion -/

theorem flushed_iff (s : State) :
    s.flushed = true ↔ s.held = 0 ∧ s.gaps.entries = [] ∧ s.table.queue = [] ∧ s.table.live = [] ∧
      s.assembler.phase = .idle ∧ s.spine.frames = [] := by
  simp [State.flushed, and_assoc]

/-- With no segment live, nothing pending and no flush, nothing settles (R93). -/
theorem settle_of_no_segment {s : State} (hidle : s.assembler.phase = .idle) (hlive : s.table.live = [])
    (hphase : s.station.phase ≠ .flush) : settle s = s := by
  rw [settle, placeMemoryGap_idle s (by simp [hidle]), considerFrames_none s _ (chooseFrame_noSegment s hlive),
    completeFlush_phase s hphase]

/-- Settles O17: outside FLUSH, or with a fact wanting, the judgement leaves the state. -/
theorem flushCompletes : Obligations.FlushCompletes := by
  intro s hr hf
  refine ⟨fun hphase hstaging hstored hgaps hqueue hlive hidle hframes => ?_, fun hwanting => ?_⟩
  · have hflushed : s.flushed = true := (flushed_iff s).2 ⟨by simp [State.held, hstaging, hstored], hgaps, hqueue, hlive, hidle, hframes⟩
    have heffect : effect .flushComplete s =
        { s with
          station := { s.station with phase := .done }
          assembler := { s.assembler with flushTimer := .stopped } } := by
      rw [effect, completeFlush, if_pos ⟨hphase, hflushed⟩]
    have hquiet : Quiet s (effect .flushComplete s) := heffect ▸ .of_same rfl rfl
    have hsettle : settle (effect .flushComplete s) = effect .flushComplete s := by
      rw [heffect]
      exact settle_of_no_segment hidle hlive nofun
    have hsettled : settled .flushComplete s = effect .flushComplete s := by
      have hdrains : settled .flushComplete s = settleFrom s (effect .flushComplete s) := rfl
      rw [hdrains, settleFrom, hsettle, ite_self]
    refine ⟨_, by rw [exec_of_quiet rfl hr hf hquiet, hsettled], heffect, ?_⟩
    rw [heffect]
    rfl
  · refine exec_of_no_effect rfl hr hf (if_neg ?_)
    rw [flushed_iff]
    rintro ⟨hphase, hheld, hgaps, hqueue, hlive, hidle, hframes⟩
    rcases hwanting with h | h | h | h | h | h | h
    · exact h hphase
    · omega
    · exact h hgaps
    · exact h hqueue
    · exact h hlive
    · exact h hidle
    · exact h hframes

/-! ### The lane alignment -/

theorem setLane_getLsbD (lane k : Fin 8) (out : Bool) (s : State) :
    (setLane lane out s).intake.laneOut.getLsbD k.val = if k = lane then out else s.intake.laneOut.getLsbD k.val := by
  obtain ⟨w, hw⟩ : ∃ w, w = BitVec.ofNat 8 (2 ^ lane.val) := ⟨_, rfl⟩
  have hpower : ∀ lane k : Fin 8, (BitVec.ofNat 8 (2 ^ lane.val)).getLsbD k.val = decide (k = lane) := by decide
  have hbit : w.getLsbD k.val = decide (k = lane) := hw ▸ hpower lane k
  have hlaneOut : (setLane lane out s).intake.laneOut =
      if out then s.intake.laneOut ||| w else s.intake.laneOut &&& ~~~w := by rw [hw]; rfl
  rw [hlaneOut]
  cases out with
  | true =>
    rw [if_pos rfl, BitVec.getLsbD_or, hbit]
    by_cases hk : k = lane <;> simp [hk]
  | false =>
    rw [if_neg Bool.false_ne_true, BitVec.getLsbD_and, BitVec.getLsbD_not, hbit]
    by_cases hk : k = lane <;> simp [hk]

theorem laneFault_iff (s : State) : s.laneFault = true ↔ ∃ k < s.channels, s.intake.laneOut.getLsbD k = true := by
  simp [State.laneFault]

/-- The condition of a lane fault is bit 6 of the conditions (R188). -/
theorem conditions_laneFault (s : State) : s.conditions.getLsbD 6 = s.laneFault := by
  have hother (f : Flag) (hf : f ≠ .laneFault) (p : Bool) : (f.mask p).getLsbD 6 = false := by
    cases p with
    | false => simp [Flag.mask]
    | true => revert hf; cases f <;> decide
  have hown : (Flag.mask .laneFault s.laneFault).getLsbD 6 = s.laneFault := by
    cases s.laneFault <;> simp [Flag.mask, Flag.index]
  simp (disch := decide) only [State.conditions, BitVec.getLsbD_or, hown, hother, Bool.false_or, Bool.or_false]

/-- Settles O21. -/
theorem laneAlignmentTaken : Obligations.LaneAlignmentTaken := by
  intro lane out s hr hf
  have hsettled : settled (.laneAlignmentChange lane out) s = setLane lane out s := rfl
  have hfollow : (report s (setLane lane out s)).flagsFollow := hsettled ▸ report_settled_flagsFollow rfl hr hf
  have hfault : (report s (setLane lane out s)).laneFault = (setLane lane out s).laneFault := by
    simp [State.laneFault, State.channels]
  refine ⟨report s (setLane lane out s), by rw [exec_free rfl hr, hsettled], by simp [setLane], fun k => ?_, ?_, fun hlane => ?_, fun hlive => ?_, ?_⟩
  · rw [report_intake, setLane_getLsbD]
  · rw [laneFault_iff]
    have hchannels : (report s (setLane lane out s)).channels = s.channels := by simp [State.channels]
    rw [hchannels]
    constructor
    · rintro ⟨k, hk, hbit⟩
      exact ⟨⟨k, BitVec.lt_of_getLsbD hbit⟩, hk, hbit⟩
    · rintro ⟨k, hk, hbit⟩
      exact ⟨k.val, hk, hbit⟩
  · exact flag_of_condition hfollow (by rw [conditions_laneFault, hlane])
  · have hmode : (report s (setLane lane out s)).faults.mode = .live := by rw [report_faults_mode]; exact hlive
    have hbit := congrArg (fun w => w.getLsbD 6) (hfollow.2 hmode)
    have hmask : conditionFlags.getLsbD 6 = true := by decide
    rwa [conditions_laneFault, BitVec.getLsbD_and, hmask, Bool.and_true] at hbit
  · exact report_settled_sameBut (c := .laneAlignmentChange lane out) rfl (sameBut_mono (effect_sameBut _ s) (by simp [reach])) (by simp)

end Sys2Proof.Machine
end

section
/-! PROOFS. Marker lines, the marker window, the order of boundary requests and their consideration (R54 to R63, R68 to R74). -/

namespace Sys2Proof.Machine

/-! ### Events of a line -/

section Watched

variable {line : Fin 4} {setup : LineSetup} {next : LineSetup → MarkerLine → Option MarkerLine} {s : State}

theorem watchedLine_of_run (hrun : s.station.phase = .run) (hsetup : s.enabledSetup line = some setup) :
    s.watchedLine line = some (setup, s.markers.lines.get line) := by
  rw [State.watchedLine, if_pos hrun, hsetup, Option.map_some]

theorem onLine_of_some {l : MarkerLine} (hrun : s.station.phase = .run) (hsetup : s.enabledSetup line = some setup)
    (hnext : next setup (s.markers.lines.get line) = some l) : onLine line next s = setLine line l s := by
  simp only [onLine, watchedLine_of_run hrun hsetup, hnext]

theorem onLine_of_none (hrun : s.station.phase = .run) (hsetup : s.enabledSetup line = some setup)
    (hnext : next setup (s.markers.lines.get line) = none) : onLine line next s = s := by
  simp only [onLine, watchedLine_of_run hrun hsetup, hnext]

/-- The unit acts on enabled lines in RUN alone (R53). -/
theorem onLine_unwatched (h : s.station.phase ≠ .run ∨ s.enabledSetup line = none) : onLine line next s = s := by
  have hnone : s.watchedLine line = none := by
    unfold State.watchedLine
    split
    · next hrun =>
      rcases h with h | h
      · exact absurd hrun h
      · rw [h, Option.map_none]
    · rfl
  simp only [onLine, hnone]

end Watched

theorem durationNs_eq (setup : LineSetup) : setup.durationNs = 8 * 2 ^ (3 + 4 * setup.qualification.val) := by
  unfold LineSetup.durationNs
  split <;> next h => rw [h]; rfl

theorem notedIndex_eq (s : State) : s.notedIndex = if s.intake.point = 0 then 0 else s.intake.point - 1 := by
  unfold State.notedIndex
  split
  · next h => rw [h]
  · rfl

/-- A command that reaches the Marker Unit alone leaves just its effect. -/
theorem exec_of_markers {c : Instr} {s : State} (hc : resets c = false) (hd : drains c = false)
    (hmarkers : reach c = [.markers]) (hr : s.resetHeld = false) (hf : s.flagsFollow) : exec c s = .next (effect c s) :=
  exec_of_quiet_alone hc hd hr hf (quiet_of_parts (hmarkers ▸ effect_sameBut c s) (by decide))

/-- Settles O23: each event by the line's state. -/
theorem lineStates : Obligations.LineStates := by
  refine ⟨fun line s hr hf => ⟨fun setup hrun hsetup => ⟨fun hphase => ?_, fun hphase => ?_, fun harmed hrecovering => ?_⟩,
    fun h => ?_⟩, fun line setup s hr hf hrun hsetup => ⟨fun hphase => ?_, fun hphase hauto => ?_, fun hphase hmanual => ?_,
    fun hphase => ⟨?_, ?_⟩⟩⟩
  · rw [exec_of_markers rfl rfl rfl hr hf, effect, onLine_of_some hrun hsetup (by rw [edgeSeen, hphase])]
    simp only [setLine, notedIndex_eq, durationNs_eq]
  · rw [exec_of_markers rfl rfl rfl hr hf, effect, onLine_of_some hrun hsetup (by rw [edgeSeen, hphase]), setLine]
  · have hignored : edgeSeen s.notedIndex setup (s.markers.lines.get line) = none := by
      unfold edgeSeen
      split <;> simp_all
    exact exec_of_no_effect rfl hr hf (onLine_of_none hrun hsetup hignored)
  · exact exec_of_no_effect rfl hr hf (onLine_unwatched h)
  · rw [exec_of_markers rfl rfl rfl hr hf, effect, onLine_of_some hrun hsetup (by rw [inactiveSeen, hphase]), setLine]
  · rw [exec_of_markers rfl rfl rfl hr hf, effect, onLine_of_some hrun hsetup (by rw [inactiveSeen, hphase, hauto])]
    simp only [setLine, durationNs_eq]
  · exact exec_of_no_effect rfl hr hf (onLine_of_none hrun hsetup (by rw [inactiveSeen, hphase, hmanual]))
  · rw [exec_of_markers rfl rfl rfl hr hf, effect, onLine_of_some hrun hsetup (by rw [activeSeen, hphase]), setLine]
  · rw [exec_of_markers rfl rfl rfl hr hf, effect, onLine_of_some hrun hsetup (by rw [recoveryEnded, hphase]), setLine]

/-! ### Acceptance and suppression -/

/-- A line that qualifies is LATCHED, and its marker goes to acceptance (R57, R63). -/
theorem qualifyMarker_of_qualifying {line : Fin 4} {now noted : Nat} {setup : LineSetup} {s : State}
    (hrun : s.station.phase = .run) (hsetup : s.enabledSetup line = some setup)
    (hphase : (s.markers.lines.get line).phase = .qualifying) (hnoted : (s.markers.lines.get line).noted = some noted) :
    qualifyMarker line now s =
      if s.markers.window.length < 4 ∧ s.spine.notes.length < 8 then
        acceptMarker line noted now (setLine line { phase := .latched, latch := true } s)
      else suppressMarker (setLine line { phase := .latched, latch := true } s) := by
  have hadmits : (setLine line { phase := .latched, latch := true } s).admitsMarker = true ↔
      s.markers.window.length < 4 ∧ s.spine.notes.length < 8 := by
    rw [State.admitsMarker, Bool.and_eq_true, decide_eq_true_eq, decide_eq_true_eq]
    rfl
  simp only [qualifyMarker, watchedLine_of_run hrun hsetup, hphase, hnoted]
  exact if_congr hadmits rfl rfl

/-- Settles O25: a marker without room changes its line, the count and the flag alone. -/
theorem markerSuppressedAndWindow : Obligations.MarkerSuppressedAndWindow := by
  refine ⟨fun line now noted setup s hr hf hrun hsetup hphase hnoted hfull => ?_, fun now time rest s hr hf hwindow => ⟨fun h => ?_, fun h => ?_⟩⟩
  · have heffect : effect (.markerQualify line now) s =
        suppressMarker (setLine line { phase := .latched, latch := true } s) := by
      rw [effect, qualifyMarker_of_qualifying hrun hsetup hphase hnoted, if_neg (by omega)]
    have hquiet : Quiet s (effect (.markerQualify line now) s) := by
      rw [heffect]
      exact .raise (w := Flag.mask .markerSuppressed true) (by decide) rfl rfl
    rw [exec_of_unseen rfl hr hf (heffect ▸ rfl) hquiet, heffect]
    rfl
  · rw [exec_of_markers rfl rfl rfl hr hf, effect, hwindow, windowAfter, if_pos h]
  · have hstays : effect (.markerWindowLeave now) s = s := by
      rw [effect, hwindow, windowAfter, if_neg (Nat.not_le.2 h), ← hwindow]
    exact exec_of_no_effect rfl hr hf hstays

/-! ### The order of the requests -/

theorem insertRequest_perm (r : Request) (queue : List Request) : (insertRequest r queue).Perm (r :: queue) := by
  induction queue with
  | nil => exact .refl _
  | cons q rest ih =>
    rw [insertRequest]
    split
    · exact (ih.cons q).trans (.swap r q rest)
    · exact .refl _

theorem insertRequest_pairwise (r : Request) {queue : List Request} (h : queue.Pairwise fun x y => x.index ≤ y.index) :
    (insertRequest r queue).Pairwise fun x y => x.index ≤ y.index := by
  induction queue with
  | nil => exact List.pairwise_singleton _ r
  | cons q rest ih =>
    obtain ⟨hq, hrest⟩ := List.pairwise_cons.1 h
    rw [insertRequest]
    split
    · next hle =>
      refine List.pairwise_cons.2 ⟨fun x hx => ?_, ih hrest⟩
      rcases List.mem_cons.1 ((insertRequest_perm r rest).mem_iff.1 hx) with rfl | hx
      · exact hle
      · exact hq x hx
    · next hlt =>
      refine List.pairwise_cons.2 ⟨fun x hx => ?_, h⟩
      rcases List.mem_cons.1 hx with rfl | hx
      · omega
      · have := hq x hx
        omega

/-- A request stands behind those of its own index. -/
theorem insertRequest_filter (r : Request) {queue : List Request} (h : queue.Pairwise fun x y => x.index ≤ y.index) :
    (insertRequest r queue).filter (fun x => decide (x.index = r.index)) =
      queue.filter (fun x => decide (x.index = r.index)) ++ [r] := by
  induction queue with
  | nil => simp [insertRequest]
  | cons q rest ih =>
    obtain ⟨hq, hrest⟩ := List.pairwise_cons.1 h
    rw [insertRequest]
    split
    · rw [List.filter_cons, List.filter_cons, ih hrest]
      split <;> rfl
    · next hlt =>
      have hnone : (q :: rest).filter (fun x => decide (x.index = r.index)) = [] := by
        refine List.filter_eq_nil_iff.2 fun x hx => ?_
        have hle : q.index ≤ x.index := by
          rcases List.mem_cons.1 hx with rfl | hx
          · exact Nat.le_refl _
          · exact hq x hx
        simpa using (by omega : x.index ≠ r.index)
      rw [List.filter_cons, hnone]
      simp

theorem isDuplicate_iff (s : State) (r : Request) :
    s.isDuplicate r = true ↔ (∃ q ∈ s.table.queue, q.origin = r.origin ∧ q.seq = r.seq) ∨
      ∃ g ∈ s.table.live, g.origin = r.origin ∧ g.seq = r.seq := by
  simp [State.isDuplicate]

/-- A request that is not a duplicate, by the room in the queue and its place there (R69). -/
theorem arriveRequest_new {s : State} {r : Request} (hnew : s.isDuplicate r = false) :
    arriveRequest r s =
      if 8 ≤ s.table.queue.length then absorbRequest false s
      else if s.frontOfQueue r then considerHead { s with table := { s.table with queue := insertRequest r s.table.queue } }
      else { s with table := { s.table with queue := insertRequest r s.table.queue } } := by
  rw [arriveRequest, hnew]
  rfl

/-- Settles O26. -/
theorem requestsStayInOrder : Obligations.RequestsStayInOrder := by
  refine ⟨fun r s => ⟨fun hduplicate => ?_, fun hqueue hlive => ?_⟩,
    fun r queue h => ⟨insertRequest_pairwise r h, insertRequest_perm r queue, insertRequest_filter r h⟩⟩
  · rw [arriveRequest, if_pos ((isDuplicate_iff s r).2 hduplicate)]
  · have hnew : s.isDuplicate r = false := by
      rw [← Bool.not_eq_true, isDuplicate_iff]
      push Not
      exact ⟨fun q hq horigin hseq => hqueue q hq ⟨horigin, hseq⟩, fun g hg horigin hseq => hlive g hg ⟨horigin, hseq⟩⟩
    refine ⟨fun hfull => ?_, fun q rest hq hle hroom => ?_, fun hroom hfront => ?_⟩
    · rw [arriveRequest_new hnew, if_pos hfull]
      refine ⟨by simp, rfl, ?_⟩
      have hflags : (absorbRequest false s).faults.flags = s.faults.flags ||| Flag.mask .markerAbsorbed true := rfl
      rw [hflags, BitVec.getLsbD_or]
      simp [Flag.mask, Flag.index]
    · have hbehind : ¬s.frontOfQueue r = true := by simp [State.frontOfQueue, hq, hle]
      rw [arriveRequest_new hnew, if_neg (by omega), if_neg hbehind]
    · have hfirst : s.frontOfQueue r = true ∧ insertRequest r s.table.queue = r :: s.table.queue := by
        cases hq : s.table.queue with
        | nil => simp [State.frontOfQueue, hq, insertRequest]
        | cons q rest =>
          have hlt : r.index < q.index := hfront q (by simp [hq])
          simp [State.frontOfQueue, hq, insertRequest, hlt]
      rw [arriveRequest_new hnew, if_neg (by omega), if_pos hfirst.1, hfirst.2]

/-! ### The consideration of the head request -/

/-- The judgement of a request where a segment is live (R72). -/
theorem judgeRequest_snoc {s : State} {before : List Segment} {g : Segment} (hl : s.table.live = before ++ [g]) (r : Request) :
    judgeRequest s r =
      if max r.index (max g.start s.assembler.drain) = g.start then .absorbed true
      else if s.limit ≤ max r.index (max g.start s.assembler.drain) then
        if s.station.phase = .run then .waiting else .absorbed false
      else if 63 ≤ s.table.live.length then .absorbed false
      else .applied (max r.index (max g.start s.assembler.drain)) := by
  have hlast : s.table.live.getLast? = some g := by rw [hl, List.getLast?_concat]
  simp only [judgeRequest, hlast]
  rfl

/-- A judgement that takes the head request off the queue leads to the next one (R71). -/
theorem considerHead_next {r : Request} {rest : List Request} {s u t : State} (hqueue : s.table.queue = r :: rest)
    (hu : considerRequests (r :: rest) s = considerRequests rest u)
    (ht : t = { u with table := { u.table with queue := rest } }) : considerHead s = considerHead t := by
  rw [considerHead, hqueue, hu, ht, considerHead_queue]

theorem considerHead_absorbed {r : Request} {rest : List Request} {s t : State} {coincident : Bool}
    (hqueue : s.table.queue = r :: rest) (hjudged : judgeRequest s r = .absorbed coincident)
    (ht : t = { absorbRequest coincident s with table := { (absorbRequest coincident s).table with queue := rest } }) :
    considerHead s = considerHead t :=
  considerHead_next hqueue (by rw [considerRequests_cons, hjudged]) ht

theorem considerHead_applied {r : Request} {rest : List Request} {s t : State} {start : Nat}
    (hqueue : s.table.queue = r :: rest) (hjudged : judgeRequest s r = .applied start)
    (ht : t = { applyRequest r start s with table := { (applyRequest r start s).table with queue := rest } }) :
    considerHead s = considerHead t :=
  considerHead_next hqueue (by rw [considerRequests_cons, hjudged]) ht

/-- Settles O27: each outcome of R72, and the next request after it. -/
theorem boundaryConsidered : Obligations.BoundaryConsidered := by
  refine ⟨fun s hr => drainEvent_free _ _ hr, fun s h => considerHead_empty s h, fun r rest s hqueue hlive => ?_,
    fun r rest g before m limit s hqueue hlive hm hlimit => ?_⟩
  · have hjudged : judgeRequest s r = .absorbed false := by simp [judgeRequest, hlive]
    refine considerHead_absorbed hqueue hjudged ?_
    simp only [absorbRequest, hlive, mapLast]
    rfl
  · have hjudge := judgeRequest_snoc hlive r
    have hlimit' : s.limit = limit := hlimit.symm
    rw [← hm, hlimit'] at hjudge
    refine ⟨fun hne hrun hle => ?_, fun heq => ?_, fun hne hbeyond => ?_, fun hne hlt hroom hexact => ?_, fun hne hlt hroom hmoved => ?_⟩
    · rw [if_neg hne, if_pos hle, if_pos hrun] at hjudge
      exact considerHead_waits s r rest hqueue hjudge
    · rw [if_pos heq] at hjudge
      refine considerHead_absorbed hqueue hjudge ?_
      simp only [absorbRequest, hlive, mapLast_snoc]
      rfl
    · have hjudged : judgeRequest s r = .absorbed false := by
        rw [hjudge, if_neg hne]
        rcases hbeyond with ⟨hrun, hle⟩ | ⟨hlt, hfull⟩
        · rw [if_pos hle, if_neg hrun]
        · rw [if_neg (Nat.not_le.2 hlt), if_pos hfull]
      refine considerHead_absorbed hqueue hjudged ?_
      simp only [absorbRequest, hlive, mapLast_snoc]
      rfl
    · rw [if_neg hne, if_neg (Nat.not_le.2 hlt), if_neg (Nat.not_le.2 hroom)] at hjudge
      refine considerHead_applied hqueue hjudge ?_
      simp only [applyRequest, if_pos hexact, hlive, mapLast_snoc, openedSegment, hlimit', List.append_assoc]
      rfl
    · rw [if_neg hne, if_neg (Nat.not_le.2 hlt), if_neg (Nat.not_le.2 hroom)] at hjudge
      refine considerHead_applied hqueue hjudge ?_
      simp only [applyRequest, if_neg hmoved, hlive, mapLast_snoc, openedSegment, hlimit', List.append_assoc]
      rfl

end Sys2Proof.Machine
end

section
/-! PROOFS. The DRAM port, the refresh and the temperature (R27 to R32, R36). -/

namespace Sys2Proof.Machine

/-! ### The grant -/

/-- The claim that a free port grants first (R27). -/
def State.claim (s : State) : Option PortOp :=
  firstClaim s.memory.owed (!s.memory.staging.isEmpty) s.memory.readRequest.isSome

theorem firstClaim_forced_iff (owed : Int) (staged requested : Bool) :
    firstClaim owed staged requested = some (.refresh .forced) ↔ owed = 8 := by
  unfold firstClaim
  repeat' split
  all_goals simp_all

/-- A grant on a free port (R27, R30). -/
theorem grantPort_free {s : State} (hself : s.memory.selfRefresh = false) (hop : s.memory.op = none) :
    grantPort s =
      if s.memory.owed = 8 then
        { s with
          memory := { s.memory with op := some { op := .refresh .forced } }
          counters := { s.counters with forcedRefresh := min Config.counter32 (s.counters.forcedRefresh + 1) }
          faults := s.faults.raise (Flag.mask .refreshForced true) }
      else { s with memory := { s.memory with op := granted s.claim } } := by
  have hclaim : portChoice s.memory = s.claim := portChoice_firstClaim s.memory
  have hforced : s.claim = some (.refresh .forced) ↔ s.memory.owed = 8 := firstClaim_forced_iff _ _ _
  have hnone : s = { s with memory := { s.memory with op := none } } := by rw [← hop]
  rw [grantPort, if_pos ⟨hself, hop⟩, hclaim]
  split
  · next hwaits =>
    have howed : s.memory.owed ≠ 8 := fun h => by simp [hforced.2 h] at hwaits
    rw [if_neg howed, hwaits]
    exact hnone
  · next hwaits =>
    rw [if_pos (hforced.1 hwaits)]
    rfl
  · next op hnot hwaits =>
    have howed : s.memory.owed ≠ 8 := fun h => hnot (Option.some.inj (hwaits.symm.trans (hforced.2 h)))
    rw [if_neg howed, hwaits]
    rfl

theorem grantPort_sameBut (s : State) : sameBut [.memory, .counters, .faults] s (grantPort s) := by
  intro p hp
  cases p <;> simp [Part.same] at hp ⊢

theorem granted_firstClaim_forced (staged requested : Bool) :
    granted (firstClaim 8 staged requested) = some { op := .refresh .forced } := rfl

/-- Settles O33: R27's order, row by row. -/
theorem portGrantOrder : Obligations.PortGrantOrder := by
  refine ⟨fun s hbusy => grantPort_busy s ?_, fun s hself hop => ?_⟩
  · rintro ⟨hself, hop⟩
    rcases hbusy with h | h
    · simp [h] at hself
    · simp [hop] at h
  · have hgrant := grantPort_free hself hop
    have hmemory : (grantPort s).memory = { s.memory with op := granted s.claim } := by
      rw [hgrant]
      split
      · next howed => rw [State.claim, howed, granted_firstClaim_forced]
      · rfl
    have hop' : (grantPort s).memory.op = granted s.claim := congrArg _ hmemory
    refine ⟨hmemory, grantPort_sameBut s, fun howed => ?_, fun howed => ?_, fun hlt hstaging => ?_, fun hlt hstaging hrequest => ?_,
      fun hpos hlt hstaging hrequest => ?_, fun hlow hnonpos hstaging hrequest => ?_, fun howed hstaging hrequest => ?_⟩
    · rw [hgrant, if_pos howed]
      exact ⟨rfl, rfl, rfl⟩
    · rw [hgrant, if_neg howed]
      exact ⟨rfl, rfl⟩
    · rw [hop', State.claim, firstClaim, if_neg (by omega), if_pos (by simpa using hstaging)]
      rfl
    · rw [hop', State.claim, firstClaim, if_neg (by omega), if_neg (by simp [hstaging]), if_pos hrequest]
      rfl
    · rw [hop', State.claim, firstClaim, if_neg (by omega), if_neg (by simp [hstaging]), if_neg (by simp [hrequest]), if_pos hpos]
      rfl
    · rw [hop', State.claim, firstClaim, if_neg (by omega), if_neg (by simp [hstaging]), if_neg (by simp [hrequest]),
        if_neg (by omega), if_pos hlow]
      rfl
    · have hclaim : s.claim = none := by simp [State.claim, firstClaim, howed, hstaging, hrequest]
      rw [hgrant, if_neg (by omega), hclaim]
      exact congrArg (fun op => { s with memory := { s.memory with op := op } }) hop.symm

/-! ### Refresh -/

theorem refreshInterval_eq (mode : ThermalMode) : refreshInterval mode = if mode = .normal then 3900 else 1950 := by
  cases mode <;> rfl

theorem portFreed_configured {s : State} (hconfig : s.station.config.isSome = true) :
    portFreed s = grantPort { s with memory := { s.memory with op := none } } := by
  obtain ⟨c, hc⟩ := Option.isSome_iff_exists.1 hconfig
  simp only [portFreed, hc]

theorem portFreed_memory_kept (s : State) :
    (portFreed s).memory =
      { s.memory with op := (portFreed s).memory.op, selfRefresh := (portFreed s).memory.selfRefresh } := by
  unfold portFreed
  split
  · rfl
  · unfold grantPort
    repeat' split
    all_goals rfl

/-- A refresh that is no left-over lowers owed, and the port is free (R27, R30). -/
theorem completeRefresh_current {s : State} {form : RefreshForm}
    (hop : s.memory.op = some { op := .refresh form, stale := false }) :
    completeRefresh s = portFreed { s with memory := { s.memory with owed := s.memory.owed - 1 } } := by
  rw [completeRefresh, if_neg (by simp [CaptureMemory.leftOver, hop]),
    if_pos (by simp [CaptureMemory.current, hop, PortOp.isRefresh])]

/-- Settles O32. -/
theorem refreshMovesOwed : Obligations.RefreshMovesOwed := by
  intro s hr hf
  refine ⟨fun form hop => ?_, fun interval htimer howed => ?_, fun interval htimer howed => ?_, fun htimer => ?_⟩
  · obtain ⟨u, hu⟩ : ∃ u : State, u = { s with memory := { s.memory with owed := s.memory.owed - 1 } } := ⟨_, rfl⟩
    have heffect : effect .refreshComplete s = portFreed u := by
      rw [effect, completeRefresh_current hop, hu]
    have hquiet : Quiet s (effect .refreshComplete s) := by
      rw [heffect]
      exact (portFreed_quiet u).after (by rw [hu]; rfl) (by rw [hu])
    refine ⟨_, exec_of_quiet_alone rfl rfl hr hf hquiet, fun hconfig => ?_, fun hconfig hself => ?_, ?_, ?_⟩
    · rw [heffect, portFreed_unconfigured u (by rw [hu]; exact hconfig), hu]
    · rw [heffect, portFreed_memory u (by rw [hu]; exact hconfig) (by rw [hu]; exact hself), hu]
    · rw [heffect, portFreed_memory_kept, hu]
    · exact sameBut_mono (effect_sameBut .refreshComplete s) (by simp [reach])
  · obtain ⟨u, hu⟩ : ∃ u : State, u = { s with memory := { s.memory with
        owed := s.memory.owed + 1, refreshTimer := some (refreshInterval s.memory.thermal) } } := ⟨_, rfl⟩
    have heffect : effect .refreshExpiry s = grantPort u := by
      simp only [effect, refreshExpired, htimer, if_neg howed, hu]
    have hquiet : Quiet s (effect .refreshExpiry s) := by
      rw [heffect]
      exact (grantPort_quiet u).after (by rw [hu]; rfl) (by rw [hu])
    refine ⟨_, exec_of_quiet_alone rfl rfl hr hf hquiet, ?_, ?_, sameBut_mono (effect_sameBut .refreshExpiry s) (by simp [reach])⟩
    · rw [heffect, ← refreshInterval_eq]
      split
      · next hfree =>
        rw [grantPort_memory u (by rw [hu]; exact hfree.1) (by rw [hu]; exact hfree.2), hu]
      · next hbusy =>
        rw [grantPort_busy u (by rw [hu]; exact hbusy), hu]
    · rw [heffect, grantPort_counters_lateRefresh, hu]
  · have heffect : effect .refreshExpiry s =
        { s with
          memory := { s.memory with refreshTimer := some (if s.memory.thermal = .normal then 3900 else 1950) }
          counters := { s.counters with lateRefresh := min Config.counter32 (s.counters.lateRefresh + 1) }
          faults := s.faults.raise (Flag.mask .refreshLate true) } := by
      simp only [effect, refreshExpired, htimer, if_pos howed, refreshInterval_eq]
      rfl
    rw [exec_of_quiet_alone rfl rfl hr hf (heffect ▸ .raise (w := Flag.mask .refreshLate true) (by decide) rfl rfl), heffect]
  · exact exec_of_no_effect rfl hr hf (by simp only [effect, refreshExpired, htimer])

/-! ### Operations left over from a SOFT RESET -/

/-- Every completion of an operation left over frees the port, and does nothing else (R36). -/
theorem effect_leftOver {c : Instr} {op : PortOp} {s : State} (hop : s.memory.op = some { op := op, stale := true })
    (hc : c = .blockWriteComplete ∧ op = .write ∨
      (∃ corrected uncorrectable, c = .blockReadComplete corrected uncorrectable) ∧ op = .read ∨
      c = .refreshComplete ∧ ∃ form, op = .refresh form) : resets c = false ∧ effect c s = portFreed s := by
  rcases hc with ⟨rfl, rfl⟩ | ⟨⟨corrected, uncorrectable, rfl⟩, rfl⟩ | ⟨rfl, form, rfl⟩
  · exact ⟨rfl, if_pos (by simp [CaptureMemory.leftOver, hop, PortOp.isWrite])⟩
  · exact ⟨rfl, if_pos (by simp [CaptureMemory.leftOver, hop, PortOp.isRead])⟩
  · exact ⟨rfl, if_pos (by simp [CaptureMemory.leftOver, hop, PortOp.isRefresh])⟩

/-- The port is not seen by the choice of a frame and the flush completion. -/
theorem portFreed_drainView (s : State) : (portFreed s).drainView = s.drainView := by
  have hnewest : (portFreed s).newestBlock = s.newestBlock := by simp [State.newestBlock, State.capacity]
  simp only [State.drainView, hnewest]
  simp

/-- Settles O34. -/
theorem leftOverOperationsHaveNoEffect : Obligations.LeftOverOperationsHaveNoEffect := by
  intro c op s hr hf hop hc
  obtain ⟨hreset, heffect⟩ := effect_leftOver hop hc
  have hexec : exec c s = .next (portFreed s) := by
    rw [exec_of_unseen hreset hr hf (by rw [heffect, portFreed_drainView]) (heffect ▸ portFreed_quiet s), heffect]
  refine ⟨fun hconfig => ?_, fun hconfig hself claim hclaim => ?_⟩
  · rw [hexec, portFreed_unconfigured s hconfig]
  · have hfreed := grantPort_free (s := { s with memory := { s.memory with op := none } }) hself rfl
    rw [← portFreed_configured hconfig] at hfreed
    refine ⟨fun hunforced => ?_, fun hforced => ?_⟩
    · have howed : s.memory.owed ≠ 8 := fun h => hunforced (hclaim.trans ((firstClaim_forced_iff _ _ _).2 h))
      rw [hexec, hfreed, if_neg howed, hclaim]
      rfl
    · have howed : s.memory.owed = 8 := (firstClaim_forced_iff _ _ _).1 (hclaim.symm.trans hforced)
      rw [hexec, hfreed, if_pos howed]

/-! ### Temperature -/

theorem mask_getLsbD (f : Flag) (present : Bool) (i : Nat) :
    (f.mask present).getLsbD i = (present && decide (i = f.index)) := by
  have hbit : ∀ i < 24, (f.mask true).getLsbD i = decide (i = f.index) := by cases f <;> decide
  have hindex : f.index < 24 := by cases f <;> decide
  cases present with
  | false => simp [Flag.mask]
  | true =>
    by_cases hi : i < 24
    · rw [hbit i hi, Bool.true_and]
    · rw [BitVec.getLsbD_of_ge _ _ (by omega), Bool.true_and]
      exact (decide_eq_false (by omega)).symm

theorem conditions_hot (s : State) : s.conditions.getLsbD 9 = (s.memory.thermal != .normal) := by
  simp [State.conditions, -BitVec.getLsbD_eq_getElem, mask_getLsbD, Flag.index]

theorem conditions_overtemp (s : State) : s.conditions.getLsbD 10 = (s.memory.thermal == .overtemp) := by
  simp [State.conditions, -BitVec.getLsbD_eq_getElem, mask_getLsbD, Flag.index]

/-- In LIVE mode a condition's flag is the condition (R177). -/
theorem flag_of_live {s : State} (h : s.flagsFollow) (hlive : s.faults.mode = .live) {i : Nat}
    (hi : conditionFlags.getLsbD i = true) : s.faults.flags.getLsbD i = s.conditions.getLsbD i := by
  rw [← h.2 hlive, BitVec.getLsbD_and, hi, Bool.and_true]

/-- Settles O35. -/
theorem thermalReadingMovesMode : Obligations.ThermalReadingMovesMode := by
  intro celsius s hr hf
  obtain ⟨t, ht⟩ : ∃ t, t = report s (settled (.thermalReading celsius) s) := ⟨_, rfl⟩
  have hfollow : t.flagsFollow := ht ▸ report_settled_flagsFollow rfl hr hf
  have hmemory : t.memory = { s.memory with thermal := thermalAfter s.memory.thermal celsius } := by
    rw [ht, report_memory]
    rfl
  have hmode : t.faults.mode = s.faults.mode := by
    rw [ht, report_faults_mode]
    rfl
  have hthermal : t.memory.thermal = thermalAfter s.memory.thermal celsius := congrArg _ hmemory
  refine ⟨t, thermalAfter s.memory.thermal celsius, by rw [ht, exec_free rfl hr], hmemory, fun h => ?_, fun h h' => ?_, fun h h' => ?_,
    fun h h' => ?_, fun h => ?_, fun h => ?_, fun h => ?_, fun hlive h => ?_, ?_⟩
  · unfold thermalAfter
    rw [if_pos h]
  · unfold thermalAfter
    rw [if_neg (by omega), if_neg (by omega)]
    cases s.memory.thermal <;> simp <;> omega
  · unfold thermalAfter
    rw [if_neg (by omega), if_neg (by omega)]
    cases s.memory.thermal <;> simp <;> omega
  · unfold thermalAfter
    rw [if_neg (by omega), if_neg (by omega)]
    cases s.memory.thermal <;> simp <;> omega
  · unfold thermalAfter
    rw [if_neg (by omega), if_pos h]
  · exact flag_of_condition hfollow (by rw [conditions_hot, hthermal]; simpa using h)
  · exact flag_of_condition hfollow (by rw [conditions_overtemp, hthermal, h]; rfl)
  · rw [flag_of_live hfollow (hmode.trans hlive) (by decide), conditions_hot, hthermal, h]
    rfl
  · rw [ht]
    exact report_settled_sameBut (c := .thermalReading celsius) rfl (sameBut_mono (effect_sameBut _ s) (by simp [reach])) (by simp)

end Sys2Proof.Machine
end

section
/-! PROOFS. Span selection and reduction (R101, R102, R104, R105). -/

namespace Sys2Proof.Machine

/-! ### The payload of a span -/

theorem payloadBytes_level {channels a last : Nat} {level : Level} (h : level.val ≠ 0) :
    payloadBytes channels level a last = 4 * channels * pairCount level a last := if_neg h

theorem payloadBytes_samples {channels a last : Nat} {level : Level} (h : level.val = 0) :
    payloadBytes channels level a last = (2 * channels * (last + 1 - a) + 3) / 4 * 4 := if_pos h

theorem payloadBytes_mono (channels : Nat) (level : Level) (a : Nat) {last last' : Nat} (h : last ≤ last') :
    payloadBytes channels level a last ≤ payloadBytes channels level a last' := by
  by_cases hlevel : level.val = 0
  · rw [payloadBytes_samples hlevel, payloadBytes_samples hlevel]
    have hsamples : 2 * channels * (last + 1 - a) ≤ 2 * channels * (last' + 1 - a) := Nat.mul_le_mul_left _ (by omega)
    omega
  · rw [payloadBytes_level hlevel, payloadBytes_level hlevel]
    refine Nat.mul_le_mul_left _ (Nat.succ_le_succ (Nat.sub_le_sub_right ?_ _))
    exact Nat.div_le_div_right h

theorem payloadBytes_mod_four (channels : Nat) (level : Level) (a last : Nat) :
    payloadBytes channels level a last % 4 = 0 := by
  by_cases hlevel : level.val = 0
  · rw [payloadBytes_samples hlevel]
    omega
  · rw [payloadBytes_level hlevel, Nat.mul_assoc]
    omega

/-- The group sizes of the levels above 0 (R102). -/
theorem groupSize_cases {level : Level} (h : level.val ≠ 0) :
    groupSize level = 4 ∨ groupSize level = 8 ∨ groupSize level = 16 ∨ groupSize level = 32 := by
  match level with
  | 0 => exact absurd rfl h
  | 1 => exact .inl rfl
  | 2 => exact .inr (.inl rfl)
  | 3 => exact .inr (.inr (.inl rfl))
  | 4 => exact .inr (.inr (.inr rfl))

theorem blockEnd_eq (index : Nat) : blockEnd index = 512 * (index / 512) + 511 := rfl

/-- A span within one block has at most 256 groups (R102). -/
theorem pairCount_block {level : Level} (hlevel : level.val ≠ 0) {a last : Nat} (h : last ≤ blockEnd a) :
    pairCount level a last ≤ 256 := by
  rw [blockEnd_eq] at h
  unfold pairCount
  rcases groupSize_cases hlevel with hsize | hsize | hsize | hsize <;> rw [hsize] <;> omega

/-- A span within one block fits wherever the payload holds a block (R159, test 5). -/
theorem payloadBytes_block {channels payload : Nat} (hpayload : 1024 * channels ≤ payload) (level : Level) {a last : Nat}
    (h : last ≤ blockEnd a) : payloadBytes channels level a last ≤ payload := by
  by_cases hlevel : level.val = 0
  · have hlength : last + 1 - a ≤ 512 := by
      rw [blockEnd_eq] at h
      omega
    have hsamples : 2 * channels * (last + 1 - a) ≤ 2 * channels * 512 := Nat.mul_le_mul_left _ hlength
    rw [payloadBytes_samples hlevel]
    omega
  · have hpairs : 4 * channels * pairCount level a last ≤ 4 * channels * 256 :=
      Nat.mul_le_mul_left _ (pairCount_block hlevel h)
    rw [payloadBytes_level hlevel]
    omega

/-- A span of more than 256 blocks never fits (R101). -/
theorem payloadBytes_far {channels : Nat} (hchannels : 1 ≤ channels) (level : Level) {a last : Nat}
    (h : a + 131072 ≤ last) : 16384 < payloadBytes channels level a last := by
  by_cases hlevel : level.val = 0
  · have hsamples : 2 * 1 * (last + 1 - a) ≤ 2 * channels * (last + 1 - a) :=
      Nat.mul_le_mul_right _ (Nat.mul_le_mul_left _ hchannels)
    rw [payloadBytes_samples hlevel]
    omega
  · have hpairs : 4097 ≤ pairCount level a last := by
      unfold pairCount
      rcases groupSize_cases hlevel with hsize | hsize | hsize | hsize <;> rw [hsize] <;> omega
    have hbytes : 4 * 1 * pairCount level a last ≤ 4 * channels * pairCount level a last :=
      Nat.mul_le_mul_right _ (Nat.mul_le_mul_left _ hchannels)
    rw [payloadBytes_level hlevel]
    omega

/-! ### The end of the span -/

/-- An end candidate within the limit whose payload fits (R101). -/
structure FittingEnd (channels payload : Nat) (level : Level) (a limit last : Nat) : Prop where
  low : a ≤ last
  high : last ≤ limit
  candidate : last = limit ∨ last % 512 = 511
  fits : payloadBytes channels level a last ≤ payload

section Extend

variable {channels payload : Nat} {level : Level} {a limit : Nat}

theorem extendSpan_succ (fuel last : Nat) :
    extendSpan channels payload level a limit (fuel + 1) last =
      if last < limit ∧ payloadBytes channels level a (min (last + 512) limit) ≤ payload then
        extendSpan channels payload level a limit fuel (min (last + 512) limit)
      else last := rfl

theorem extendSpan_fittingEnd (fuel : Nat) {last : Nat} (h : FittingEnd channels payload level a limit last) :
    FittingEnd channels payload level a limit (extendSpan channels payload level a limit fuel last) := by
  induction fuel generalizing last with
  | zero => exact h
  | succ fuel ih =>
    rw [extendSpan_succ]
    split
    · next hnext =>
      have hlow := h.low
      have hcandidate := h.candidate
      exact ih ⟨by omega, Nat.min_le_right _ _, by omega, hnext.2⟩
    · exact h

/-- The extension ends where nothing is left, where the next candidate does not fit, or where its steps are used up. -/
theorem extendSpan_stops (fuel last : Nat) :
    limit ≤ extendSpan channels payload level a limit fuel last ∨
    payload < payloadBytes channels level a (min (extendSpan channels payload level a limit fuel last + 512) limit) ∨
    last + 512 * fuel ≤ extendSpan channels payload level a limit fuel last := by
  induction fuel generalizing last with
  | zero => exact .inr (.inr (Nat.le_refl _))
  | succ fuel ih =>
    rw [extendSpan_succ]
    split
    · rcases ih (min (last + 512) limit) with h | h | h
      · exact .inl h
      · exact .inr (.inl h)
      · by_cases hlimit : limit ≤ last + 512
        · exact .inl (by rw [Nat.min_eq_right hlimit] at h ⊢; omega)
        · rw [Nat.min_eq_left (by omega)] at h ⊢
          exact .inr (.inr (by omega))
    · next hnot =>
      by_cases hlimit : limit ≤ last
      · exact .inl hlimit
      · exact .inr (.inl (by simpa [Nat.lt_of_not_le hlimit] using hnot))

theorem spanEnd_fittingEnd (hpayload : 1024 * channels ≤ payload) (ha : a ≤ limit) :
    FittingEnd channels payload level a limit (spanEnd channels payload level a limit) := by
  have hblock : a ≤ blockEnd a ∧ blockEnd a % 512 = 511 := by
    rw [blockEnd_eq]
    omega
  exact extendSpan_fittingEnd _ ⟨by omega, Nat.min_le_right _ _, by omega, payloadBytes_block hpayload level (Nat.min_le_left _ _)⟩

/-- No candidate above the chosen end fits (R101). -/
theorem le_spanEnd (hchannels : 1 ≤ channels) (hpayload : 1024 * channels ≤ payload) (ha : a ≤ limit)
    (hmax : payload ≤ 16384) {last : Nat} (h : FittingEnd channels payload level a limit last) :
    last ≤ spanEnd channels payload level a limit := by
  have hend := spanEnd_fittingEnd (level := level) hpayload ha
  obtain ⟨e, he⟩ : ∃ e, e = spanEnd channels payload level a limit := ⟨_, rfl⟩
  have hstops := extendSpan_stops (channels := channels) (payload := payload) (level := level) (a := a) (limit := limit)
    spanSteps (min (blockEnd a) limit)
  rw [← spanEnd, ← he] at hstops
  rw [← he] at hend ⊢
  by_contra hlt
  have hhigh := h.high
  have hcandidate := h.candidate
  have hcandidate' := hend.candidate
  rcases hstops with hlimit | hunfit | hfar
  · omega
  · have hmono := payloadBytes_mono channels level a (show min (e + 512) limit ≤ last by omega)
    have hfits := h.fits
    omega
  · have hblock : a ≤ blockEnd a := by
      rw [blockEnd_eq]
      omega
    have hsteps : spanSteps = 256 := rfl
    have hunfit := payloadBytes_far hchannels level (a := a) (last := e) (by omega)
    have hfits := hend.fits
    omega

end Extend

/-- Settles O40. -/
theorem spanFitsThePayload : Obligations.SpanFitsThePayload := by
  refine ⟨fun channels a last size level hsize => ?_, fun channels payload a limit level hchannels hpayload ha => ?_⟩
  · rw [hsize]
    rfl
  · obtain ⟨hlow, hhigh, hcandidate, hfits⟩ := spanEnd_fittingEnd (level := level) hpayload ha
    exact ⟨hlow, hhigh, hfits, payloadBytes_mod_four _ _ _ _, hcandidate, fun hmax last hlast hlimit hend hpays =>
      le_spanEnd hchannels hpayload ha hmax ⟨hlast, hlimit, hend, hpays⟩⟩

/-! ### Reduction -/

/-- One more sample in the pair: between its ends, which were the pair's or are the sample (R105). -/
theorem widenPair_spec (pair : Option (Sample × Sample)) (x : Sample) :
    (widenPair pair x).1.toInt ≤ x.toInt ∧ x.toInt ≤ (widenPair pair x).2.toInt ∧
      (∀ p, pair = some p → (widenPair pair x).1.toInt ≤ p.1.toInt ∧ p.2.toInt ≤ (widenPair pair x).2.toInt) ∧
      ((widenPair pair x).1 = x ∨ ∃ p, pair = some p ∧ (widenPair pair x).1 = p.1) ∧
      ((widenPair pair x).2 = x ∨ ∃ p, pair = some p ∧ (widenPair pair x).2 = p.2) := by
  cases pair with
  | none => exact ⟨Int.le_refl _, Int.le_refl _, nofun, .inl rfl, .inl rfl⟩
  | some p =>
    simp only [widenPair, sampleMin, sampleMax, Option.some.injEq, forall_eq', exists_eq_left']
    refine ⟨?_, ?_, ⟨?_, ?_⟩, ?_, ?_⟩ <;> split <;> simp_all <;> omega

/-- What the group begun and the rest of it come to: the least and the greatest (R104, R105). -/
theorem reduceSamples_group (size : Nat) {group rest : List Sample} :
    ∀ {left : Nat} (pair : Option (Sample × Sample)), 1 ≤ left → group ≠ [] →
      (group.length = left ∨ (group.length < left ∧ rest = [])) →
      ∃ lo hi, reduceSamples size left pair (group ++ rest) = lo :: hi :: reduceSamples size size none rest ∧
        (lo ∈ group ∨ ∃ p, pair = some p ∧ lo = p.1) ∧ (hi ∈ group ∨ ∃ p, pair = some p ∧ hi = p.2) ∧
        (∀ x ∈ group, lo.toInt ≤ x.toInt ∧ x.toInt ≤ hi.toInt) ∧
        ∀ p, pair = some p → lo.toInt ≤ p.1.toInt ∧ p.2.toInt ≤ hi.toInt := by
  induction group with
  | nil => exact fun _ _ h _ => absurd rfl h
  | cons x group ih =>
    intro left pair hleft _ hlength
    obtain ⟨hlow, hhigh, hpair, hmin, hmax⟩ := widenPair_spec pair x
    obtain ⟨w, hw⟩ : ∃ w, w = widenPair pair x := ⟨_, rfl⟩
    rw [← hw] at hlow hhigh hpair hmin hmax
    have hmember {y : Sample} (hy : y = x) : y ∈ x :: group := by rw [hy]; exact List.mem_cons_self
    have hmin' : w.1 ∈ x :: group ∨ ∃ p, pair = some p ∧ w.1 = p.1 := hmin.imp_left hmember
    have hmax' : w.2 ∈ x :: group ∨ ∃ p, pair = some p ∧ w.2 = p.2 := hmax.imp_left hmember
    rw [List.length_cons] at hlength
    rw [List.cons_append, reduceSamples, ← hw]
    rcases List.eq_nil_or_concat group with rfl | ⟨_, _, hgroup⟩
    · refine ⟨w.1, w.2, ?_, hmin', hmax', by simpa using ⟨hlow, hhigh⟩, hpair⟩
      split
      · rfl
      · rcases hlength with hlength | ⟨-, rfl⟩
        · simp at hlength
          omega
        · simp [reduceSamples]
    · have hne : group ≠ [] := by simp [hgroup]
      have hpos : 0 < group.length := List.length_pos_of_ne_nil hne
      rw [if_neg (by omega)]
      have hrest : group.length = left - 1 ∨ group.length < left - 1 ∧ rest = [] :=
        hlength.imp (by omega) (And.imp_left (by omega))
      obtain ⟨lo, hi, heq, hlo, hhi, hbounds, hends⟩ := ih (left := left - 1) (some w) (by omega) hne hrest
      obtain ⟨hlow', hhigh'⟩ := hends w rfl
      refine ⟨lo, hi, heq, ?_, ?_, fun y hy => ?_, fun p hp => ?_⟩
      · rcases hlo with h | ⟨p, hp, h⟩
        · exact .inl (List.mem_cons_of_mem x h)
        · obtain rfl := Option.some.inj hp
          exact h ▸ hmin'
      · rcases hhi with h | ⟨p, hp, h⟩
        · exact .inl (List.mem_cons_of_mem x h)
        · obtain rfl := Option.some.inj hp
          exact h ▸ hmax'
      · rcases List.mem_cons.1 hy with rfl | hy
        · exact ⟨hlow'.trans hlow, hhigh.trans hhigh'⟩
        · exact hbounds y hy
      · exact ⟨hlow'.trans (hpair p hp).1, (hpair p hp).2.trans hhigh'⟩

/-- Settles O41. -/
theorem reductionIsMinMax : Obligations.ReductionIsMinMax := by
  refine ⟨fun _ _ => rfl, fun size left group rest hleft hne hlength => ?_⟩
  obtain ⟨lo, hi, heq, hlo, hhi, hbounds, -⟩ := reduceSamples_group size none hleft hne hlength
  have hlo' : lo ∈ group := hlo.resolve_right nofun
  have hhi' : hi ∈ group := hhi.resolve_right nofun
  exact ⟨lo, hlo', hi, hhi', hbounds, heq⟩

end Sys2Proof.Machine
end

section
/-! PROOFS. Frames: the placement of a TRAILER, of a GAP frame and of a MEMORY gap, the start of a DATA frame, and the flush-age
timer (R84, R91 to R103, R112). -/

namespace Sys2Proof.Machine

/-! ### What follows a draining command -/

theorem drainKeeps_trans {s t u : State} (h : DrainKeeps s t) (k : DrainKeeps t u) : DrainKeeps s u where
  dram := k.dram.trans h.dram
  writeSlot := k.writeSlot.trans h.writeSlot
  drainSlot := k.drainSlot.trans h.drainSlot
  storedCount := k.storedCount.trans h.storedCount
  staging := k.staging.trans h.staging
  owed := k.owed.trans h.owed
  refreshTimer := k.refreshTimer.trans h.refreshTimer
  thermal := k.thermal.trans h.thermal
  selfRefresh := k.selfRefresh.trans h.selfRefresh
  ownAddress := k.ownAddress.trans h.ownAddress
  strapSample := k.strapSample.trans h.strapSample
  input := k.input.trans h.input
  transit := k.transit.trans h.transit
  hold := k.hold.trans h.hold
  lastSent := k.lastSent.trans h.lastSent
  frames := h.frames.trans k.frames
  config := k.config.trans h.config
  startCount := k.startCount.trans h.startCount
  capturedTag := k.capturedTag.trans h.capturedTag
  incarnation := k.incarnation.trans h.incarnation
  lastRejection := k.lastRejection.trans h.lastRejection
  deviceNumber := k.deviceNumber.trans h.deviceNumber
  mode := k.mode.trans h.mode
  alertMask := k.alertMask.trans h.alertMask

/-- What settles and what is reported keep of the state a command leaves. -/
theorem drained_keeps (before s : State) : DrainKeeps s (report before (settleFrom before s)) :=
  drainKeeps_trans (settleFrom_keeps before s) (report_keeps before _)

/-- With a frame in assembly nothing settles (R93). -/
theorem settle_assembling {s : State} {w : WorkingCopy} (h : s.assembler.phase = .assembling w) : settle s = s := by
  have hbusy : ¬s.flushed = true := by
    rw [flushed_iff]
    simp [h]
  rw [settle, placeMemoryGap_idle s (by simp [h]), considerFrames_none s _ (chooseFrame_busy s (by simp [h])), completeFlush,
    if_neg (fun hflush => hbusy hflush.2)]

theorem settleFrom_assembling {before s : State} {w : WorkingCopy} (h : s.assembler.phase = .assembling w) :
    settleFrom before s = s := by
  rw [settleFrom, settle_assembling h, ite_self]

/-! ### The choice of a frame (R94) -/

section Choice

variable {g : Segment} {more : List Segment} {s : State}

theorem chooseFrame_idle (hidle : s.assembler.phase = .idle) (hroom : s.spine.frames.length < 4)
    (hlive : s.table.live = g :: more) :
    chooseFrame s =
      if trailerDue s g then some (.trailer g)
      else
        match eligibleGap s g with
        | some e => some (.gap g e)
        | none => (dataSpan s g).map (.data g) := by
  rw [chooseFrame, hlive]
  exact if_pos ⟨hidle, hroom⟩

theorem trailerDue_iff : trailerDue s g = true ↔ ∃ last, g.ending = some last ∧ last < s.assembler.drain := by
  cases hending : g.ending <;> simp [trailerDue, hending]

theorem not_trailerDue (h : ∀ last, g.ending = some last → s.assembler.drain ≤ last) : ¬trailerDue s g = true := by
  rw [trailerDue_iff]
  rintro ⟨last, hending, hlt⟩
  have := h last hending
  omega

theorem takeIfDue_of_choice {kind : DueFrame → Bool} {due : DueFrame} (hchoice : chooseFrame s = some due)
    (hkind : kind due = true) : takeIfDue kind s = takeDueFrame due s := by
  simp only [takeIfDue, hchoice, if_pos hkind]

end Choice

/-! ### TRAILERs -/

theorem positionOf_one {head : Nat} (hlow : 1 ≤ head) (hhigh : head ≤ 63) :
    positionOf head 1 = if head = 63 then 1 else head + 1 := by
  unfold positionOf
  split <;> omega

/-- Settles O36. -/
theorem trailerPlaced : Obligations.TrailerPlaced := by
  intro g rest last s hr hidle hroom hlive hending hpassed
  have hchoice : chooseFrame s = some (.trailer g) := by
    rw [chooseFrame_idle hidle hroom hlive, if_pos (trailerDue_iff.2 ⟨last, hending, hpassed⟩)]
  have heffect : effect .trailerPlace s = placeTrailer g s := takeIfDue_of_choice hchoice rfl
  have hsettled : settled .trailerPlace s = settleFrom s (placeTrailer g s) := by rw [← heffect]; rfl
  have hframes : (placeTrailer g s).spine.frames = s.spine.frames ++
      [{ origin := s.unitOrigin, seq := s.assembler.frameSeq, segOrigin := g.origin, segSeq := g.seq,
         body := .trailer g.start last g.requested g.dataFrames g.gapFrames g.gapSamples g.levels g.absorbed }] := by
    simp [placeTrailer, trailerBody, hending]
  have hkeeps := drained_keeps s (placeTrailer g s)
  refine ⟨_, _, by rw [exec_free rfl hr, hsettled], by rw [← hframes]; exact hkeeps.frames, rfl, fun hthree => ?_, ?_⟩
  · have hfull : settleFrom s (placeTrailer g s) = placeTrailer g s := by
      refine settleFrom_full _ _ ?_
      rw [hframes, List.length_append, List.length_singleton, hthree]
    rw [hfull]
    refine ⟨by rw [report_spine, hframes], by simp [placeTrailer, hlive], by simp [placeTrailer], fun hlow hhigh => ?_, ?_, by simp, by simp⟩
    · rw [report_table, ← positionOf_one hlow hhigh]
      simp [placeTrailer]
    · simp [placeTrailer, placeFrame]
  · rw [← hsettled]
    exact report_drained_sameBut (sameBut_mono (effect_sameBut .trailerPlace s) (by simp [reach, drainParts])) (by simp)

/-! ### GAP frames -/

/-- The indices of a GAP frame: the front range up to the segment's end (R96). -/
theorem gapSpan_eq {g : Segment} {e : GapEntry} (hcount : 1 ≤ e.count) (hends : ∀ last, g.ending = some last → e.first ≤ last) :
    gapSpan g e = match g.ending with
      | some last => min e.count (last + 1 - e.first)
      | none => e.count := by
  unfold gapSpan boundedBy GapEntry.frontEnd
  cases hending : g.ending with
  | none => simp only; omega
  | some last =>
    have := hends last hending
    simp only
    omega

/-- Settles O37. -/
theorem gapFramePlaced : Obligations.GapFramePlaced := by
  intro g more e rest k s hr hidle hroom hlive hentries hfirst hcount hends hready hk
  have hk' : gapSpan g e = k := by
    refine (gapSpan_eq hcount (by rw [hfirst]; exact hends)).trans (Eq.trans ?_ hk.symm)
    cases g.ending <;> rfl
  have heligible : eligibleGap s g = some e := by
    have hsettled : e.settled = true ∨ (g.ending.any fun last => decide (last ≤ e.frontEnd)) = true ∨
        s.assembler.flushTimer = .expired := by
      rcases hready with h | h | ⟨last, hending, hle⟩ | h
      · exact .inl (by simp [GapEntry.settled, h])
      · exact .inl (by simp [GapEntry.settled, h])
      · exact .inr (.inl (by rw [hending]; exact decide_eq_true hle))
      · exact .inr (.inr h)
    rw [eligibleGap, hentries]
    exact if_pos ⟨hfirst, hsettled⟩
  have hchoice : chooseFrame s = some (.gap g e) := by
    rw [chooseFrame_idle hidle hroom hlive, if_neg (not_trailerDue hends), heligible]
  have heffect : effect .gapFramePlace s = placeGap g e s := takeIfDue_of_choice hchoice rfl
  have hsettled : settled .gapFramePlace s = settleFrom s (placeGap g e s) := by rw [← heffect]; rfl
  have hframes : (placeGap g e s).spine.frames = s.spine.frames ++
      [{ origin := s.unitOrigin, seq := s.assembler.frameSeq, segOrigin := g.origin, segSeq := g.seq,
         body := .gap e.first k (.drop e.cause) e.heldFlag }] := by
    simp [placeGap, hk']
  have hkeeps := drained_keeps s (placeGap g e s)
  refine ⟨_, _, by rw [exec_free rfl hr, hsettled], by rw [← hframes]; exact hkeeps.frames, rfl, fun hthree hqueue => ?_, ?_⟩
  · have hfull : settleFrom s (placeGap g e s) = placeGap g e s := by
      refine settleFrom_full _ _ ?_
      rw [hframes, List.length_append, List.length_singleton, hthree]
    have hplaced : placeGap g e s = onHeadSegment (Segment.countGap k)
        { placeFrame g.origin g.seq (.gap e.first k (.drop e.cause) e.heldFlag) s with
          gaps := s.gaps.consume k
          assembler :=
            { s.assembler with
              drain := s.assembler.drain + k, frameSeq := s.assembler.frameSeq + 1, flushTimer := .running } } := by
      unfold placeGap
      rw [considerHead_empty]
      · simp [hk', placeFrame]
      · simp [hqueue]
    rw [hfull]
    refine ⟨by rw [report_spine, hframes], ?_, ?_, ?_, ?_⟩
    · rw [report_gaps, hplaced]
      rfl
    · rw [report_assembler, hplaced]
      rfl
    · rw [report_table, hplaced]
      simp [hlive, mapHead]
    · rw [report_memory, placeGap_memory]
  · rw [← hsettled]
    exact report_drained_sameBut (sameBut_mono (effect_sameBut .gapFramePlace s) (by simp [reach, drainParts])) (by simp)

/-! ### DATA frames -/

theorem boundedBy_eq_iff {a : Nat} {bound : Option Nat} : boundedBy a bound = a ↔ ∀ b, bound = some b → a ≤ b := by
  cases bound <;> simp [boundedBy]

theorem gapAbove_eq_some_iff {s : State} {first : Nat} :
    s.gapAbove = some first ↔ ∃ e, s.gaps.entries.head? = some e ∧ s.assembler.drain < e.first ∧ e.first = first := by
  unfold State.gapAbove
  cases hentries : s.gaps.entries with
  | nil => simp
  | cons e rest =>
    simp only [List.head?_cons, Option.some.injEq, exists_eq_left']
    split <;> simp_all

/-- Settles O38. -/
theorem dataFrameStarts : Obligations.DataFrameStarts := by
  refine ⟨fun g x y a stored bound limit last s ha hstored hx hy hlast hbelow hnoGap hclosed hopen hend eligible heligible => ?_,
    fun g s hempty => ?_, fun g more last s hr hf hidle hroom hlive hends hfirst hspan hqueue => ?_⟩
  · have hne : s.memory.storedCount ≠ 0 := by omega
    have hnewest : s.newestBlock = some y.block := by rw [State.newestBlock, if_neg hne, hy, Option.map_some]
    have hdrain : s.drainBlock = some x.block := by rw [State.drainBlock, if_neg hne, hx, Option.map_some]
    have hbound : boundedBy stored (s.gapAbove.map (· - 1)) = bound := by
      cases hgap : s.gapAbove with
      | none =>
        refine (hnoGap fun e he => ?_).symm
        by_contra hlt
        have hsome := gapAbove_eq_some_iff.2 ⟨e, he, by omega, rfl⟩
        simp [hgap] at hsome
      | some first =>
        obtain ⟨e, he, hlt, rfl⟩ := gapAbove_eq_some_iff.1 hgap
        exact (hbelow e he (by omega)).symm
    have hlimit : dataLimit s g y.block = limit := by
      have hstored' : y.block.lastSample = stored := hlast.symm
      rw [dataLimit, hstored']
      cases hending : g.ending with
      | none => rw [hopen hending, ← hbound]; rfl
      | some ending =>
        rw [hclosed ending hending, ← hbound]
        cases s.gapAbove with
        | none => rfl
        | some first => exact Nat.min_right_comm stored ending (first - 1)
    have hcondition : (s.storedAtDrain = true ∧ boundedBy a g.ending = a ∧
        (spanFull s.channels s.payloadSize s.presence.effective a last = true ∨ g.ending.isSome = true ∨
          s.gapAbove = some (last + 1) ∨ s.assembler.flushTimer = .expired)) ↔ eligible := by
      have hfull : spanFull s.channels s.payloadSize s.presence.effective a last = true ↔
          s.payloadSize < payloadBytes s.channels s.presence.effective a (last + 512) := decide_eq_true_iff
      have hstand : s.storedAtDrain = true ↔ 512 * x.block.number ≤ a ∧ a ≤ 512 * x.block.number + x.block.fill - 1 := by
        rw [State.storedAtDrain, hdrain, ha]
        exact (Bool.and_eq_true _ _).to_iff.trans (and_congr decide_eq_true_iff decide_eq_true_iff)
      rw [heligible, boundedBy_eq_iff, gapAbove_eq_some_iff, hfull, hstand, ← ha]
    have hdata : dataSpan s g = if s.storedAtDrain = true ∧ boundedBy a g.ending = a ∧
        (spanFull s.channels s.payloadSize s.presence.effective a last = true ∨ g.ending.isSome = true ∨
          s.gapAbove = some (last + 1) ∨ s.assembler.flushTimer = .expired) then some last else none := by
      rw [dataSpan, hnewest, hend, ← hlimit, ha]
    rw [hdata]
    exact ⟨fun h => if_pos (hcondition.2 h), fun h => if_neg (mt hcondition.1 h)⟩
  · rw [dataSpan, State.newestBlock, if_pos hempty]
  · have hnoGap : eligibleGap s g = none := by
      unfold eligibleGap
      split
      · rfl
      · next e rest hentries => exact if_neg fun h => hfirst e rest hentries h.1
    have hchoice : chooseFrame s = some (.data g last) := by
      rw [chooseFrame_idle hidle hroom hlive, if_neg (not_trailerDue hends), hnoGap, hspan]
      rfl
    obtain ⟨u, hu⟩ : ∃ u : State, u =
      { s with
        memory := { s.memory with readRequest := some (s.assembler.drain / 512) }
        assembler :=
          { s.assembler with
            drain := last + 1
            phase :=
              .assembling
                { first := s.assembler.drain, last := last, level := s.presence.effective, origin := g.origin,
                  seq := g.seq, position := s.table.head, next := s.assembler.drain / 512,
                  gathered := List.replicate s.channels [] } } } := ⟨_, rfl⟩
    have hqueue' : (grantPort u).table.queue = [] := by rw [grantPort_table, hu]; exact hqueue
    have heffect : effect .dataFrameStart s = grantPort u := by
      rw [← considerHead_empty _ hqueue', hu]
      exact takeIfDue_of_choice hchoice rfl
    have hassembler : (grantPort u).assembler = u.assembler := grantPort_assembler u
    have hsettled : settled .dataFrameStart s = grantPort u := by
      have hdrains : settled .dataFrameStart s = settleFrom s (effect .dataFrameStart s) := rfl
      rw [hdrains, heffect]
      exact settleFrom_assembling ((congrArg Assembler.phase hassembler).trans (by rw [hu]))
    refine ⟨report s (grantPort u), by rw [exec_free rfl hr, hsettled], ?_, ?_, ?_, ?_, ?_, ?_, ?_, fun hop => ?_, fun hop hself => ?_, ?_⟩
    · rw [report_assembler, hassembler, hu]
    · rw [report_memory, grantPort_memory_readRequest, hu]
    · rw [report_memory, grantPort_memory_dram, hu]
    · rw [report_memory, grantPort_memory_staging, hu]
    · rw [report_memory, grantPort_memory_storedCount, hu]
    · rw [report_memory, grantPort_memory_drainSlot, hu]
    · rw [report_memory, grantPort_memory_owed, hu]
    · have hbusy : ¬(u.memory.selfRefresh = false ∧ u.memory.op = none) := by
        rw [hu]
        simp [Option.isSome_iff_ne_none.1 hop]
      rw [report_memory, grantPort_busy u hbusy, hu]
    · rw [report_memory, grantPort_memory u (by rw [hu]; exact hself) (by rw [hu]; exact hop), hu]
      rfl
    · have hstart : sameBut [.memory, .assembler, .counters, .faults] s u := by
        intro p hp
        cases p <;> simp [hu, Part.same] at hp ⊢
      exact sameBut_trans (sameBut_trans hstart (sameBut_mono (grantPort_sameBut u) (by simp)))
        (sameBut_mono (report_sameBut _ _) (by simp))

/-! ### The pending MEMORY gap and the flush-age timer -/

theorem placeMemoryGap_of_pending {m : MemoryGap} {s : State} (hphase : s.assembler.phase = .pending m) :
    placeMemoryGap s =
      if s.spine.frames.length < 4 then
        onHeadSegment (Segment.countGap m.count)
          { placeFrame m.origin m.seq (.gap m.first m.count .memory false) s with
            assembler := { (placeFrame m.origin m.seq (.gap m.first m.count .memory false) s).assembler with phase := .idle } }
      else s := by
  rw [placeMemoryGap, hphase]

theorem flushAgeExpired_running {s : State} (h : s.assembler.flushTimer = .running) :
    flushAgeExpired s = { s with assembler := { s.assembler with flushTimer := .expired } } := if_pos h

/-- Settles O39. -/
theorem memoryGapAndFlushAge : Obligations.MemoryGapAndFlushAge := by
  refine ⟨fun m s hr hf hphase => ⟨fun hroom => ?_, fun hfull => ?_⟩, fun s hr hf => ⟨fun hrunning hfull => ?_, fun hrunning => ?_, fun hstopped => ?_⟩⟩
  · have hplaced := placeMemoryGap_of_pending hphase
    rw [if_pos hroom] at hplaced
    have hframes : (placeMemoryGap s).spine.frames = s.spine.frames ++
        [{ origin := s.unitOrigin, seq := s.assembler.frameSeq, segOrigin := m.origin, segSeq := m.seq,
           body := .gap m.first m.count .memory false }] := by
      rw [hplaced]
      simp
    have hsettled : settled .memoryGapPlace s = settleFrom s (placeMemoryGap s) := rfl
    have hkeeps := drained_keeps s (placeMemoryGap s)
    refine ⟨_, _, by rw [exec_free rfl hr, hsettled], by rw [← hframes]; exact hkeeps.frames, rfl, fun hthree => ?_, ?_⟩
    · have hfull : settleFrom s (placeMemoryGap s) = placeMemoryGap s := by
        refine settleFrom_full _ _ ?_
        rw [hframes, List.length_append, List.length_singleton, hthree]
      rw [hfull]
      refine ⟨by rw [report_spine, hframes], ?_, by simp, ?_, ?_, by simp, by simp⟩
      · rw [report_assembler, hplaced]
        rfl
      · rw [report_assembler, hplaced]
        simp
      · rw [report_table, hplaced]
        simp
    · rw [← hsettled]
      exact report_drained_sameBut (sameBut_mono (effect_sameBut .memoryGapPlace s) (by simp [reach, drainParts])) (by simp)
  · refine exec_of_no_effect rfl hr hf ?_
    rw [effect, placeMemoryGap_of_pending hphase, if_neg (by omega)]
  · have heffect : effect .flushAgeExpiry s = { s with assembler := { s.assembler with flushTimer := .expired } } :=
      flushAgeExpired_running hrunning
    have hsettled : settled .flushAgeExpiry s = effect .flushAgeExpiry s :=
      settleFrom_full _ _ (by rw [heffect]; exact hfull)
    rw [exec_of_quiet rfl hr hf (heffect ▸ .of_same rfl rfl), hsettled, heffect]
  · have hsettled : settled .flushAgeExpiry s =
        settleFrom s { s with assembler := { s.assembler with flushTimer := .expired } } := by
      rw [← flushAgeExpired_running hrunning]
      rfl
    refine ⟨_, by rw [exec_free rfl hr, hsettled], ?_, ?_⟩
    · rw [← hsettled]
      exact report_drained_sameBut (sameBut_mono (effect_sameBut .flushAgeExpiry s) (by simp [reach, drainParts])) (by simp)
    · have hkeeps := drained_keeps s { s with assembler := { s.assembler with flushTimer := .expired } }
      exact drainKeeps_trans (by constructor <;> simp) hkeeps
  · exact exec_of_no_effect rfl hr hf (if_neg hstopped)

end Sys2Proof.Machine
end

section
/-! PROOFS. The Presence Unit: the pace tick, its note, and the ages (R121, R140, R141, R143, R148, R150, R154, R155). -/

namespace Sys2Proof.Machine

/-! ### The conditions of the presence and the spine, at their flags' bits (R188) -/

section Conditions

variable (s : State)

theorem conditions_ringOpen : s.conditions.getLsbD 12 = s.spine.hold.ringOpen := by
  simp [State.conditions, -BitVec.getLsbD_eq_getElem, mask_getLsbD, Flag.index]

theorem conditions_archiveAbsent : s.conditions.getLsbD 16 = s.spine.hold.archiveAbsent := by
  simp [State.conditions, -BitVec.getLsbD_eq_getElem, mask_getLsbD, Flag.index]

theorem conditions_addressClash : s.conditions.getLsbD 17 = s.spine.hold.addressClash := by
  simp [State.conditions, -BitVec.getLsbD_eq_getElem, mask_getLsbD, Flag.index]

theorem conditions_peerStale : s.conditions.getLsbD 18 = s.somePeer .stale := by
  simp [State.conditions, -BitVec.getLsbD_eq_getElem, mask_getLsbD, Flag.index]

theorem conditions_archiveHold : s.conditions.getLsbD 20 = s.spine.hold.archiveHold := by
  simp [State.conditions, -BitVec.getLsbD_eq_getElem, mask_getLsbD, Flag.index]

end Conditions

/-! ### The ages (R148, R150) -/

/-- The level 0 that an entry which is not LIVE counts with is no obstacle (R155). -/
theorem counted_live {e : PeerEntry} (h : e.phase = .live) : e.counted = e.demand := if_pos h

theorem aged_absent {e : PeerEntry} (h : e.phase = .absent) : e.aged = e := if_pos h

theorem judged_present {e : PeerEntry} (h : e.phase = .live ∨ e.phase = .mismatched) :
    e.judged = if 8 ≤ e.age then { e with phase := .stale } else e := by
  rcases h with h | h <;> rw [PeerEntry.judged, h]

theorem judged_stale {e : PeerEntry} (h : e.phase = .stale) :
    e.judged = if 64 ≤ e.age then { phase := .absent } else e := by
  rw [PeerEntry.judged, h]

theorem aged_present {e : PeerEntry} (h : e.phase = .live ∨ e.phase = .mismatched) :
    e.aged = if 8 ≤ e.age + 1 then { e with phase := .stale, age := e.age + 1 } else { e with age := e.age + 1 } := by
  have hpresent : e.phase ≠ .absent := by rcases h with h | h <;> rw [h] <;> decide
  rw [PeerEntry.aged, if_neg hpresent]
  exact judged_present h

theorem aged_stale {e : PeerEntry} (h : e.phase = .stale) :
    e.aged = if 64 ≤ e.age + 1 then { phase := .absent } else { e with age := e.age + 1 } := by
  rw [PeerEntry.aged, if_neg (by rw [h]; decide)]
  exact judged_stale h

theorem mapNth_of_getElem? {α : Type} {f : α → α} {k : Nat} {l : List α} {x : α} (h : l[k]? = some x) :
    mapNth f k l = l.set k (f x) := by
  refine List.ext_getElem? fun i => ?_
  have hk := (List.getElem?_eq_some_iff.1 h).1
  rw [getElem?_mapNth, List.getElem?_set]
  by_cases hi : k = i
  · subst hi
    simpa [hk] using congrArg f (List.getElem?_eq_some_iff.1 h).2
  · simp [hi]

theorem effect_peerStaleExpiry (address : BitVec 4) (s : State) :
    effect (.peerStaleExpiry address) s = judgePeer (fun phase => phase == .live || phase == .mismatched) address s := rfl

theorem effect_peerAbsentExpiry (address : BitVec 4) (s : State) :
    effect (.peerAbsentExpiry address) s = judgePeer (fun phase => phase == .stale) address s := rfl

/-- What a judgement of the entry at a station address leaves (R148). -/
theorem judgePeer_eq {phases : PeerPhase → Bool} {address : BitVec 4} {e : PeerEntry} {s : State}
    (hlow : 1 ≤ address.toNat) (hhigh : address.toNat ≤ 14) (he : s.presence.peers[address.toNat - 1]? = some e) :
    judgePeer phases address s =
      { s with
        presence :=
          { s.presence with
            peers := s.presence.peers.set (address.toNat - 1) (if phases e.phase then e.judged else e) } } := by
  rw [judgePeer, if_pos ((isStationAddress_iff address).2 ⟨hlow, hhigh⟩), mapNth_of_getElem? he]

theorem judgePeer_same {phases : PeerPhase → Bool} {address : BitVec 4} {e : PeerEntry} {s : State}
    (hlow : 1 ≤ address.toNat) (hhigh : address.toNat ≤ 14) (he : s.presence.peers[address.toNat - 1]? = some e)
    (hsame : phases e.phase = true → e.judged = e) : judgePeer phases address s = s := by
  have hentry : (if phases e.phase then e.judged else e) = e := by
    split
    · exact hsame ‹_›
    · rfl
  obtain ⟨hk, hget⟩ := List.getElem?_eq_some_iff.1 he
  rw [judgePeer_eq hlow hhigh he, hentry, ← hget, List.set_getElem_self]

theorem somePeer_set {phase : PeerPhase} {k : Nat} {peers : List PeerEntry} {e : PeerEntry} {s : State} (hk : k < peers.length)
    (he : e.phase = phase) (hs : s.presence.peers = peers.set k e) : s.somePeer phase = true := by
  rw [State.somePeer, hs, List.any_eq_true]
  exact ⟨e, List.mem_set hk e, by simp [he]⟩

theorem ingestOut_iff (s : State) : s.ingestOut = true ↔ ∃ r, s.presence.ingest = some r ∧ 8 ≤ r.age := by
  rw [State.ingestOut, Option.any_eq_true]
  exact exists_congr fun r => and_congr Iff.rfl decide_eq_true_iff

theorem ageOutIngest_hold (s : State) :
    (ageOutIngest s).spine.hold = if s.ingestOut then { s.spine.hold with archiveHold := false } else s.spine.hold := by
  unfold ageOutIngest
  split <;> simp_all

theorem openRing_reached {s : State} (h : 8 ≤ s.presence.returnCounter) :
    openRing s = { s with spine := { s.spine with hold := { s.spine.hold with ringOpen := true } } } := if_pos h

theorem openRing_early {s : State} (h : s.presence.returnCounter < 8) : openRing s = s := if_neg (Nat.not_le.2 h)

/-- Settles O52. -/
theorem agesRunOut : Obligations.AgesRunOut := by
  refine ⟨⟨fun e => ⟨aged_absent, fun hpresent => ⟨fun hage => ?_, fun hage => ?_⟩, fun hstale => ⟨fun hage => ?_, fun hage => ?_⟩⟩,
    fun address e s hr hf hlow hhigh he => ⟨fun hpresent hage => ?_, fun hnot => ?_, fun hnot => ?_, fun hstale hage => ?_⟩⟩,
    fun s hr hf => ⟨fun r hingest hage => ?_, fun hyoung => ?_, fun hreached => ?_, fun hearly => ?_⟩⟩
  · rw [aged_present hpresent, if_neg (by omega)]
  · rw [aged_present hpresent, if_pos (by omega), hage]
  · rw [aged_stale hstale, if_neg (by omega)]
  · rw [aged_stale hstale, if_pos (by omega)]
  · have heffect : effect (.peerStaleExpiry address) s =
        { s with presence := { s.presence with peers := s.presence.peers.set (address.toNat - 1) { e with phase := .stale } } } := by
      rw [effect_peerStaleExpiry, judgePeer_eq hlow hhigh he]
      have hphase : (e.phase == PeerPhase.live || e.phase == PeerPhase.mismatched) = true := by simpa using hpresent
      rw [hphase, if_pos rfl, judged_present hpresent, if_pos hage]
    have hsettled : settled (.peerStaleExpiry address) s = effect (.peerStaleExpiry address) s := rfl
    refine ⟨_, exec_free rfl hr, by rw [report_presence, hsettled, heffect], ?_, ?_⟩
    · refine flag_of_condition (report_settled_flagsFollow rfl hr hf) ?_
      rw [conditions_peerStale]
      exact somePeer_set (List.getElem?_eq_some_iff.1 he).1 rfl (by rw [report_presence, hsettled, heffect])
    · exact report_settled_sameBut rfl (sameBut_mono (effect_sameBut _ s) (by simp [reach])) (by simp)
  · refine exec_of_no_effect rfl hr hf ?_
    rw [effect_peerStaleExpiry]
    refine judgePeer_same hlow hhigh he fun hphase => ?_
    have hpresent : e.phase = .live ∨ e.phase = .mismatched := by simpa using hphase
    have hyoung : e.age < 8 := by
      rcases hnot with h | h | h
      · simp [h] at hpresent
      · simp [h] at hpresent
      · exact h
    rw [judged_present hpresent, if_neg (by omega)]
  · refine exec_of_no_effect rfl hr hf ?_
    rw [effect_peerAbsentExpiry]
    refine judgePeer_same hlow hhigh he fun hphase => ?_
    have hstale : e.phase = .stale := by simpa using hphase
    have hyoung : e.age < 64 := hnot.resolve_left fun h => h hstale
    rw [judged_stale hstale, if_neg (by omega)]
  · have heffect : effect (.peerAbsentExpiry address) s =
        { s with presence := { s.presence with peers := s.presence.peers.set (address.toNat - 1) { phase := .absent } } } := by
      rw [effect_peerAbsentExpiry, judgePeer_eq hlow hhigh he]
      have hphase : (e.phase == PeerPhase.stale) = true := by simpa using hstale
      rw [hphase, if_pos rfl, judged_stale hstale, if_pos hage]
    have hsettled : settled (.peerAbsentExpiry address) s = effect (.peerAbsentExpiry address) s := rfl
    refine ⟨_, exec_free rfl hr, by rw [report_presence, hsettled, heffect], ?_⟩
    exact report_settled_sameBut rfl (sameBut_mono (effect_sameBut _ s) (by simp [reach])) (by simp)
  · have hout : s.ingestOut = true := (ingestOut_iff s).2 ⟨r, hingest, hage⟩
    have hsettled : settled .ingestAgeOut s = ageOutIngest s := rfl
    have hspine : (ageOutIngest s).spine.transit = s.spine.transit := by
      rw [ageOutIngest, if_pos hout]
      simp
    refine ⟨_, exec_free rfl hr, ?_, ?_, ?_, ?_, ?_⟩
    · rw [report_presence, hsettled, ageOutIngest_presence, if_pos hout]
    · rw [report_spine, hsettled, ageOutIngest_hold, if_pos hout]
    · rw [report_spine, hsettled, hspine]
    · rw [report_spine, hsettled, (ageOutIngest_emitKept s).frames]
    · exact report_settled_sameBut rfl (sameBut_mono (effect_sameBut .ingestAgeOut s) (by simp [reach])) (by simp)
  · have hin : ¬s.ingestOut = true := by
      rw [ingestOut_iff]
      rintro ⟨r, hr', hage⟩
      exact absurd hage (Nat.not_le.2 (hyoung r hr'))
    exact exec_of_no_effect rfl hr hf (if_neg hin)
  · have hsettled : settled .ringOpen s =
        { s with spine := { s.spine with hold := { s.spine.hold with ringOpen := true } } } := openRing_reached hreached
    refine ⟨_, exec_free rfl hr, by rw [report_spine, hsettled], ?_, ?_⟩
    · refine flag_of_condition (report_settled_flagsFollow rfl hr hf) ?_
      rw [conditions_ringOpen, report_spine, hsettled]
    · exact report_settled_sameBut rfl (sameBut_mono (effect_sameBut .ringOpen s) (by simp [reach])) (by simp)
  · exact exec_of_no_effect rfl hr hf (openRing_early hearly)

/-! ### The tick (R140) -/

/-- The ingest record after part 2 of a tick (R150). -/
def agedIngest : Option IngestRecord → Option IngestRecord
  | none => none
  | some r => if r.age < 7 then some { r with age := r.age + 1 } else none

theorem ingestOut_older {s t : State} (h : t.presence.ingest = s.presence.ingest.map fun r => { r with age := r.age + 1 }) :
    t.ingestOut = true ↔ ∃ r, s.presence.ingest = some r ∧ 7 ≤ r.age := by
  rw [ingestOut_iff, h]
  constructor
  · rintro ⟨r, hr, hage⟩
    obtain ⟨r, hr', rfl⟩ := Option.map_eq_some_iff.1 hr
    exact ⟨r, hr', by simpa using hage⟩
  · rintro ⟨r, hr, hage⟩
    exact ⟨{ r with age := r.age + 1 }, by rw [hr, Option.map_some], Nat.succ_le_succ hage⟩

theorem ageIngest_presence (s : State) :
    (ageIngest s).presence = { s.presence with ingest := agedIngest s.presence.ingest } := by
  rw [ageIngest, ageOutIngest_presence]
  split
  · next hout =>
    obtain ⟨r, hr, hage⟩ := (ingestOut_older rfl).1 hout
    rw [hr, agedIngest, if_neg (by omega)]
  · next hin =>
    rw [ingestOut_older (s := s) rfl] at hin
    cases hingest : s.presence.ingest with
    | none => rfl
    | some r =>
      have hage : r.age < 7 := by
        by_contra hold
        exact hin ⟨r, hingest, by omega⟩
      rw [agedIngest, if_pos hage, Option.map_some]

theorem ageIngest_hold_young {s : State} (h : ∀ r, s.presence.ingest = some r → r.age < 7) :
    (ageIngest s).spine.hold = s.spine.hold := by
  rw [ageIngest, ageOutIngest_hold, if_neg]
  rw [ingestOut_older (s := s) rfl]
  rintro ⟨r, hr, hage⟩
  exact absurd hage (Nat.not_le.2 (h r hr))

theorem ageIngest_hold_out {s : State} {r : IngestRecord} (hr : s.presence.ingest = some r) (hage : 7 ≤ r.age) :
    (ageIngest s).spine.hold = { s.spine.hold with archiveHold := false } := by
  rw [ageIngest, ageOutIngest_hold, if_pos ((ingestOut_older rfl).2 ⟨r, hr, hage⟩)]

theorem advanceReturn_presence (s : State) :
    (advanceReturn s).presence = { s.presence with returnCounter := min 8 (s.presence.returnCounter + 1) } := by
  rw [advanceReturn, openRing_presence]
  rfl

theorem advanceReturn_hold (s : State) :
    (advanceReturn s).spine.hold =
      if 7 ≤ s.presence.returnCounter then { s.spine.hold with ringOpen := true } else s.spine.hold := by
  obtain ⟨u, hu⟩ : ∃ u : State, u =
    { s with presence := { s.presence with returnCounter := min 8 (s.presence.returnCounter + 1) } } := ⟨_, rfl⟩
  have hadvance : advanceReturn s = openRing u := by rw [hu]; rfl
  have hcounter : u.presence.returnCounter = min 8 (s.presence.returnCounter + 1) := by rw [hu]
  rw [hadvance]
  split
  · rw [openRing_reached (by omega), hu]
  · rw [openRing_early (by omega), hu]

/-- The Presence Unit after a tick (R140). -/
theorem paceTick_presence_eq {s : State} (h : s.presence.ticking = true) :
    (paceTick s).presence =
      { s.presence with
        peers := s.presence.peers.map PeerEntry.aged
        sequence := s.presence.sequence + 1
        returnCounter := min 8 (s.presence.returnCounter + 1)
        ingest := agedIngest s.presence.ingest
        fill := s.fillPermille
        demand := s.nextDemand.1
        holdCounter := s.nextDemand.2
        effective :=
          greatestLevel s.nextDemand.1 (s.presence.peers.map PeerEntry.aged) (agedIngest s.presence.ingest) } := by
  have hkept := beforeLevels_demandInputsKept s
  rw [paceTick_presence h, announce_presence, computeLevels, hkept.fillPermille_eq, hkept.nextDemand_eq,
    advanceReturn_presence, ageIngest_presence]
  rfl

theorem paceTick_hold {s : State} (h : s.presence.ticking = true) :
    (paceTick s).spine.hold = (advanceReturn (ageIngest (agePeers s))).spine.hold := by
  rw [paceTick, if_pos h, announce, queuePresence_spine_hold]
  rfl

/-- The hold set after a tick: RING_OPEN set where the return counter reaches 8 (R143), ARCHIVE_HOLD ended where the ingest
record ages out (R150). -/
theorem paceTick_hold_eq {s : State} (h : s.presence.ticking = true) :
    (paceTick s).spine.hold =
      if 7 ≤ s.presence.returnCounter then { (ageIngest (agePeers s)).spine.hold with ringOpen := true }
      else (ageIngest (agePeers s)).spine.hold := by
  rw [paceTick_hold h, advanceReturn_hold, ageIngest_presence]
  rfl

theorem foldl_counted (peers : List PeerEntry) (level : Level) :
    level ≤ peers.foldl (fun l e => max l e.counted) level ∧
      (∀ e ∈ peers, e.counted ≤ peers.foldl (fun l e => max l e.counted) level) ∧
      (peers.foldl (fun l e => max l e.counted) level = level ∨
        ∃ e ∈ peers, e.counted = peers.foldl (fun l e => max l e.counted) level) := by
  induction peers generalizing level with
  | nil => exact ⟨le_refl _, nofun, .inl rfl⟩
  | cons e peers ih =>
    obtain ⟨hbase, hall, hattained⟩ := ih (max level e.counted)
    rw [List.foldl_cons]
    refine ⟨(le_max_left _ _).trans hbase, ?_, ?_⟩
    · intro e' he'
      rcases List.mem_cons.1 he' with rfl | he'
      · exact (le_max_right _ _).trans hbase
      · exact hall e' he'
    · rcases hattained with h | ⟨e', he', h⟩
      · rcases max_choice level e.counted with hmax | hmax
        · exact .inl (h.trans hmax)
        · exact .inr ⟨e, List.mem_cons_self, (h.trans hmax).symm⟩
      · exact .inr ⟨e', List.mem_cons_of_mem _ he', h⟩

section GreatestLevel

variable (demand : Level) (peers : List PeerEntry) (ingest : Option IngestRecord)

theorem demand_le_greatestLevel : demand ≤ greatestLevel demand peers ingest :=
  (le_max_left _ _).trans (foldl_counted peers _).1

theorem ingest_le_greatestLevel {r : IngestRecord} (h : ingest = some r) : r.level ≤ greatestLevel demand peers ingest := by
  subst h
  exact (le_max_right _ _).trans (foldl_counted peers _).1

theorem live_le_greatestLevel {e : PeerEntry} (he : e ∈ peers) (hlive : e.phase = .live) :
    e.demand ≤ greatestLevel demand peers ingest := by
  rw [← counted_live hlive]
  exact (foldl_counted peers _).2.1 e he

/-- E is attained: by D, by a LIVE peer's D or by I (R155). -/
theorem greatestLevel_attained :
    greatestLevel demand peers ingest = demand ∨
      (∃ e ∈ peers, e.phase = .live ∧ e.demand = greatestLevel demand peers ingest) ∨
      ∃ r, ingest = some r ∧ r.level = greatestLevel demand peers ingest := by
  have hzero (h : greatestLevel demand peers ingest = 0) : greatestLevel demand peers ingest = demand :=
    h.trans (Fin.le_zero_iff.1 (h ▸ demand_le_greatestLevel demand peers ingest)).symm
  obtain ⟨base, hbase, hgreatest⟩ : ∃ base : Level, (base = 0 ∨ ∃ r, ingest = some r ∧ r.level = base) ∧
      greatestLevel demand peers ingest = peers.foldl (fun l e => max l e.counted) (max demand base) := by
    cases ingest with
    | none => exact ⟨0, .inl rfl, rfl⟩
    | some r => exact ⟨r.level, .inr ⟨r, rfl, rfl⟩, rfl⟩
  rcases (foldl_counted peers (max demand base)).2.2 with h | ⟨e, he, h⟩
  · rcases max_choice demand base with hmax | hmax
    · exact .inl (hgreatest.trans (h.trans hmax))
    · have hlevel : greatestLevel demand peers ingest = base := hgreatest.trans (h.trans hmax)
      rcases hbase with hbase | ⟨r, hr, hbase⟩
      · exact .inl (hzero (hlevel.trans hbase))
      · exact .inr (.inr ⟨r, hr, hbase.trans hlevel.symm⟩)
  · have hcounted : e.counted = greatestLevel demand peers ingest := h.trans hgreatest.symm
    by_cases hlive : e.phase = .live
    · exact .inr (.inl ⟨e, he, hlive, by rw [← hcounted, counted_live hlive]⟩)
    · rw [PeerEntry.counted, if_neg hlive] at hcounted
      exact .inl (hzero hcounted.symm)

end GreatestLevel

theorem nextDemand_idle {s : State} (hrun : s.station.phase ≠ .run) (hflush : s.station.phase ≠ .flush) :
    s.nextDemand = (0, 0) := by
  unfold State.nextDemand
  split <;> simp_all

/-- Settles O50. -/
theorem paceTickInOrder : Obligations.PaceTickInOrder := by
  intro s hr hf
  refine ⟨fun hstopped => exec_of_no_effect rfl hr hf ?_, fun hticking => ?_⟩
  · exact if_neg (by simp [hstopped])
  obtain ⟨t, ht⟩ : ∃ t, t = report s (settled .paceTick s) := ⟨_, rfl⟩
  have hsettled : settled .paceTick s = settleFrom s (paceTick s) := rfl
  have hfollow : t.flagsFollow := ht ▸ report_settled_flagsFollow rfl hr hf
  have hpresence := paceTick_presence_eq hticking
  rw [← settleFrom_presence s (paceTick s), ← hsettled, ← report_presence s (settled .paceTick s), ← ht] at hpresence
  have hhold := paceTick_hold_eq hticking
  rw [← settleFrom_spine_hold s (paceTick s), ← hsettled, ← report_spine s (settled .paceTick s), ← ht] at hhold
  have harchive : t.spine.hold.archiveHold = (ageIngest (agePeers s)).spine.hold.archiveHold := by
    rw [hhold]
    split <;> rfl
  have hring (hlow : s.presence.returnCounter < 7) : t.spine.hold.ringOpen = s.spine.hold.ringOpen := by
    rw [hhold, if_neg (by omega), ageIngest, ageOutIngest_hold]
    split <;> rfl
  refine ⟨t, by rw [ht, exec_free rfl hr], by rw [hpresence], by rw [hpresence], by rw [hpresence], fun hreach => ?_, hring,
    fun hnone => ?_, fun r hr hage => ?_, fun r hr hage => ?_, fun hrun hflush => ?_, ?_, ?_, ?_, ?_, by rw [hpresence],
    by rw [hpresence]; exact hticking, ?_⟩
  · have hopen : t.spine.hold.ringOpen = true := by rw [hhold, if_pos hreach]
    exact ⟨hopen, flag_of_condition hfollow ((conditions_ringOpen t).trans hopen)⟩
  · refine ⟨by rw [hpresence, hnone]; rfl, harchive.trans ?_⟩
    rw [ageIngest_hold_young (fun r hr => by simp [agePeers, hnone] at hr)]
    rfl
  · refine ⟨by rw [hpresence, hr]; exact if_pos hage, harchive.trans ?_⟩
    rw [ageIngest_hold_young (fun r' hr' => by rwa [← Option.some.inj (hr.symm.trans hr')])]
    rfl
  · refine ⟨by rw [hpresence, hr]; exact if_neg (by omega), harchive.trans ?_⟩
    rw [ageIngest_hold_out (s := agePeers s) hr hage]
  · rw [hpresence, nextDemand_idle hrun hflush]
    exact ⟨rfl, rfl⟩
  · rw [hpresence]
    exact demand_le_greatestLevel _ _ _
  · rw [hpresence]
    exact fun e he hlive => live_le_greatestLevel _ _ _ he hlive
  · rw [hpresence]
    exact fun r hr => ingest_le_greatestLevel _ _ _ hr
  · rw [hpresence]
    exact greatestLevel_attained _ _ _
  · rw [ht]
    exact report_drained_sameBut (sameBut_mono (effect_sameBut .paceTick s) (by simp [reach, drainParts])) (by simp)

/-! ### The presence note (R121, R141) -/

theorem replacePresence_append {n old : Note} {front back : List Note} (hfront : ∀ m ∈ front, m.isPresence = false)
    (hold : old.isPresence = true) : replacePresence n (front ++ old :: back) = some (front ++ n :: back) := by
  induction front with
  | nil => exact if_pos hold
  | cons m front ih =>
    have hm : ¬m.isPresence = true := by simp [hfront m]
    rw [List.cons_append, replacePresence, if_neg hm, ih fun m' hm' => hfront m' (List.mem_cons_of_mem _ hm')]
    rfl

theorem replacePresence_of_none {n : Note} {notes : List Note} (h : ∀ m ∈ notes, m.isPresence = false) :
    replacePresence n notes = none := by
  induction notes with
  | nil => rfl
  | cons m notes ih =>
    have hm : ¬m.isPresence = true := by simp [h m]
    rw [replacePresence, if_neg hm, ih fun m' hm' => h m' (List.mem_cons_of_mem _ hm')]
    rfl

/-- On a busy output a frame joins without a choice, so that port and notes stay (R126). -/
theorem placeFrame_busy {s : State} (hport : s.spine.port ≠ .free) (segOrigin : Byte) (segSeq : BitVec 16) (body : FrameBody) :
    (placeFrame segOrigin segSeq body s).spine.port = s.spine.port ∧
      (placeFrame segOrigin segSeq body s).spine.notes = s.spine.notes := by
  unfold placeFrame joinFrame
  simp only
  rw [arbitrate_busy]
  · exact ⟨rfl, rfl⟩
  · exact hport

/-- The output is busy with this, and these notes wait. -/
def State.busyWith (port : OutPort) (notes : List Note) (s : State) : Prop :=
  s.spine.port = port ∧ s.spine.notes = notes

/-- What settles with a busy output leaves its port and the note part. -/
theorem busyWith_settling {port : OutPort} (hport : port ≠ .free) (notes : List Note) :
    SettlingKeeps (State.busyWith port notes) where
  memoryGap s h := by
    unfold placeMemoryGap
    split
    · split
      · next m _ _ =>
        obtain ⟨hplaced, hnotes⟩ := placeFrame_busy (s := s) (h.1 ▸ hport) m.origin m.seq (.gap m.first m.count .memory false)
        exact ⟨hplaced.trans h.1, hnotes.trans h.2⟩
      · exact h
    all_goals exact h
  due due s _ h := by
    cases due with
    | trailer g =>
      obtain ⟨hplaced, hnotes⟩ := placeFrame_busy (s := s) (h.1 ▸ hport) g.origin g.seq (trailerBody g)
      exact ⟨hplaced.trans h.1, hnotes.trans h.2⟩
    | gap g e =>
      obtain ⟨hplaced, hnotes⟩ :=
        placeFrame_busy (s := s) (h.1 ▸ hport) g.origin g.seq (.gap e.first (gapSpan g e) (.drop e.cause) e.heldFlag)
      rw [State.busyWith, takeDueFrame, placeGap, considerHead_spine]
      exact ⟨hplaced.trans h.1, hnotes.trans h.2⟩
    | data g last =>
      rw [State.busyWith, takeDueFrame, startData, considerHead_spine, grantPort_spine]
      exact h
  flush s h := by
    rw [State.busyWith, completeFlush_spine]
    exact h

/-- Before its note a tick without an ingest record reaches the hold set alone of the spine. -/
theorem beforeAnnounce_spine {s : State} (h : s.presence.ingest = none) :
    ∃ hold, (computeLevels (advanceReturn (ageIngest (agePeers s)))).spine = { s.spine with hold := hold } := by
  have hin : ¬State.ingestOut
      { agePeers s with
        presence :=
          { (agePeers s).presence with
            ingest := (agePeers s).presence.ingest.map fun r => { r with age := r.age + 1 } } } = true := by
    rw [ingestOut_older (s := s) rfl]
    rintro ⟨r, hr, -⟩
    simp [h] at hr
  have hingest : (ageIngest (agePeers s)).spine = s.spine := by
    rw [ageIngest, ageOutIngest, if_neg hin]
    rfl
  rw [computeLevels, advanceReturn, openRing]
  split
  · exact ⟨{ s.spine.hold with ringOpen := true }, by simp only [hingest]⟩
  · exact ⟨s.spine.hold, hingest⟩

/-- Settles O51. -/
theorem presenceNoteQueued : Obligations.PresenceNoteQueued := by
  intro s hr hticking hingest hport
  obtain ⟨u, hu⟩ : ∃ u, u = computeLevels (advanceReturn (ageIngest (agePeers s))) := ⟨_, rfl⟩
  have htick : paceTick s = queuePresence u.presenceNote { u with presence := { u.presence with sequence := u.presence.sequence + 1 } } := by
    rw [paceTick, if_pos hticking, ← hu, announce]
  obtain ⟨hold, hspine⟩ : ∃ hold, u.spine = { s.spine with hold := hold } := hu ▸ beforeAnnounce_spine hingest
  have hkept : DemandInputsKept s (advanceReturn (ageIngest (agePeers s))) := beforeLevels_demandInputsKept s
  have hstation : u.station = s.station := by rw [hu]; exact hkept.station
  have hmarkers : u.markers = s.markers := by
    rw [hu]
    exact Eq.trans (openRing_sameBut _ .markers (by simp)) (ageOutIngest_sameBut _ .markers (by simp))
  have hsequence : u.presence.sequence = s.presence.sequence := by
    rw [hu, computeLevels, advanceReturn_presence, ageIngest_presence]
    rfl
  obtain ⟨t, ht⟩ : ∃ t, t = report s (settled .paceTick s) := ⟨_, rfl⟩
  have hsettled : settled .paceTick s = settleFrom s (paceTick s) := rfl
  have hpresence : t.presence = { u.presence with sequence := u.presence.sequence + 1 } := by
    rw [ht, report_presence, hsettled, settleFrom_presence, htick, queuePresence_presence]
  have hhold : t.spine.hold = u.spine.hold := by
    rw [ht, report_spine, hsettled, settleFrom_spine_hold, htick, queuePresence_spine_hold]
  have hnotes (notes : List Note) (h : (paceTick s).spine.notes = notes) (hbusy : (paceTick s).spine.port = s.spine.port) :
      t.spine.notes = notes := by
    rw [ht, report_spine, hsettled]
    exact ((busyWith_settling hport notes).settleFrom s _ ⟨hbusy, h⟩).2
  refine ⟨t, u.presenceNote, by rw [ht, exec_free rfl hr], ?_, ?_, fun front old back hqueued hfront hold => ?_,
    fun hnone => ⟨fun hroom => ?_, fun hfull => ?_⟩⟩
  · rw [hpresence, hhold, ← hsequence, ← hstation, ← hmarkers]
    rfl
  · have horigin : u.unitOrigin = s.unitOrigin := by
      simp [State.unitOrigin, State.rateClass, State.runTag, hstation, hspine]
    exact horigin
  · have hreplaced : replacePresence u.presenceNote u.spine.notes = some (front ++ u.presenceNote :: back) := by
      rw [hspine]
      exact (congrArg _ hqueued).trans (replacePresence_append hfront hold)
    refine hnotes _ ?_ ?_ <;> rw [htick, queuePresence] <;> simp only [hreplaced]
    rw [hspine]
  all_goals
    have hreplaced : replacePresence u.presenceNote u.spine.notes = none := by
      rw [hspine]
      exact replacePresence_of_none hnone
  · have hjoined : paceTick s = { u with
        presence := { u.presence with sequence := u.presence.sequence + 1 }
        spine := { u.spine with notes := u.spine.notes ++ [u.presenceNote] } } := by
      rw [htick, queuePresence]
      simp only [hreplaced]
      rw [if_pos (by rw [hspine]; exact hroom), joinNote, arbitrate_busy]
      rw [hspine]
      exact hport
    exact hnotes _ (by rw [hjoined, hspine]) (by rw [hjoined, hspine])
  · have hdiscarded : paceTick s = { u with presence := { u.presence with sequence := u.presence.sequence + 1 } } := by
      rw [htick, queuePresence]
      simp only [hreplaced]
      exact if_neg (by rw [hspine]; exact Nat.not_lt.2 hfull)
    exact hnotes _ (by rw [hdiscarded, hspine]) (by rw [hdiscarded, hspine])

end Sys2Proof.Machine
end

section
/-! PROOFS. The spine: the end of a unit at the input, and the hand-on of a good one (R65, R119, R124, R133 to R136, R142 to
R147, R149). -/

namespace Sys2Proof.Machine

/-! ### What settling and the arbiter leave -/

/-- The choice of a frame and the flush completion do not see the arbiter's choice. -/
theorem arbitrate_drainView (s : State) : (arbitrate s).drainView = s.drainView := by
  have hnewest : (arbitrate s).newestBlock = s.newestBlock := by simp [State.newestBlock, State.capacity]
  simp only [State.drainView, hnewest]
  simp

theorem arbitrate_sameBut (s : State) : sameBut [.spine] s (arbitrate s) := by
  intro p hp; cases p <;> simp [Part.same] at hp ⊢

/-- Outside FLUSH nothing that settles moves the station (R166). -/
theorem station_settling {station : Station} (h : station.phase ≠ .flush) :
    SettlingKeeps fun t => t.station = station where
  memoryGap t ht := (placeMemoryGap_station t).trans ht
  due due t _ ht := (takeDueFrame_station t due).trans ht
  flush t ht := by
    rw [completeFlush, if_neg]
    · exact ht
    · rw [ht]
      exact fun hflush => h hflush.1

/-- An event's flag stands after the report (R175). -/
theorem report_flag {before after : State} {i : Nat} (hi : conditionFlags.getLsbD i = false)
    (h : after.faults.flags.getLsbD i = true) : (report before after).faults.flags.getLsbD i = true := by
  by_cases hlt : i < 24
  · have hn : (~~~conditionFlags).getLsbD i = true := by simp only [BitVec.getLsbD_not, hi, hlt]; rfl
    unfold report
    split
    · rw [raise_flags, BitVec.getLsbD_or, h, Bool.true_or]
    · simp only [BitVec.getLsbD_or, BitVec.getLsbD_and, h, hn]
      rfl
  · rw [BitVec.getLsbD_of_ge _ _ (by omega)] at h
    exact nomatch h

/-! ### The end of a unit, by its fate (R119, R133 to R136) -/

/-- The input port once the end of a unit has come. -/
def inputEnded (s : State) : State := { s with spine := { s.spine with input := none } }

/-- The state once an accepted unit has ended at the input and in the transit buffer (R119, R132). -/
def acceptedEnded (header rest : List Byte) (s : State) : State :=
  { s with
    spine :=
      { s.spine with
        input := none
        transit := mapLast (TransitUnit.endedWith (keptBytes header rest)) s.spine.transit } }

section EndUnit

variable {header rest : List Byte} {s : State}

theorem endUnit_runt (h : s.spine.input = none) : endUnit rest s = countCheckError s := by
  rw [endUnit, h]

theorem endUnit_arriving {fate : ArrivalFate} (h : s.spine.input = some { header := header, fate := fate })
    (hfate : fate ≠ .discarded) :
    endUnit rest s = judgeEnd header rest fate (endTransit fate (keptBytes header rest) (inputEnded s)) := by
  rw [endUnit, h]
  exact if_neg hfate

theorem endUnit_discarded (h : s.spine.input = some { header := header, fate := .discarded }) :
    endUnit rest s = inputEnded s := by
  rw [endUnit, h]
  exact if_pos rfl

theorem endUnit_bad_own (h : s.spine.input = some { header := header, fate := .strippedOwn })
    (hbad : isGood header rest = false) : endUnit rest s = countCheckError (inputEnded s) := by
  rw [endUnit_arriving h nofun]
  simp [judgeEnd, hbad, endTransit]

theorem endUnit_bad_accepted (h : s.spine.input = some { header := header, fate := .accepted })
    (hbad : isGood header rest = false) : endUnit rest s = countCheckError (acceptedEnded header rest s) := by
  rw [endUnit_arriving h nofun]
  simp [judgeEnd, hbad, endTransit, acceptedEnded, inputEnded]

theorem endUnit_orphan (h : s.spine.input = some { header := header, fate := .strippedOrphan }) :
    endUnit rest s =
      countOrphan (if isGood header rest then inputEnded s else countCheckError (inputEnded s)) := by
  rw [endUnit_arriving h nofun]
  simp [judgeEnd, endTransit]

theorem endUnit_good_own (h : s.spine.input = some { header := header, fate := .strippedOwn })
    (hgood : isGood header rest = true) : endUnit rest s = arbitrate (ownUnit header (inputEnded s)) := by
  rw [endUnit_arriving h nofun]
  simp [judgeEnd, hgood, endTransit]

theorem endUnit_good_accepted (h : s.spine.input = some { header := header, fate := .accepted })
    (hgood : isGood header rest = true) : endUnit rest s = arbitrate (handOn header (acceptedEnded header rest s)) := by
  rw [endUnit_arriving h nofun]
  simp [judgeEnd, hgood, endTransit, acceptedEnded, inputEnded]

end EndUnit

theorem countCheckError_quiet (s : State) : Quiet s (countCheckError s) := quiet_setFlag (by decide) rfl rfl

theorem countOrphan_quiet (s : State) : Quiet s (countOrphan s) := quiet_setFlag (by decide) rfl rfl

/-- Settles O43. -/
theorem badUnitsAreCounted : Obligations.BadUnitsAreCounted := by
  intro rest s hr hf
  have hexec {t : State} (heffect : endUnit rest s = t) (hview : s.drainView = t.drainView) (hq : Quiet s t) :
      exec (.unitEnd rest) s = .next t := by
    have heffect' : effect (.unitEnd rest) s = t := heffect
    rw [exec_of_unseen rfl hr hf (heffect'.symm ▸ hview) (heffect'.symm ▸ hq), heffect']
  refine ⟨fun hinput => ?_, fun header => ⟨fun hinput => ?_, fun hinput hbad => ?_, fun hinput hbad => ?_, fun hinput => ?_⟩⟩
  · exact hexec (endUnit_runt hinput) rfl (countCheckError_quiet s)
  · exact hexec (endUnit_discarded hinput) rfl (.of_same rfl rfl)
  · exact hexec (endUnit_bad_own hinput hbad) rfl ((countCheckError_quiet (inputEnded s)).after rfl rfl)
  · exact hexec (endUnit_bad_accepted hinput hbad) rfl ((countCheckError_quiet (acceptedEnded header rest s)).after rfl rfl)
  · have hend := endUnit_orphan (rest := rest) hinput
    cases hgood : isGood header rest with
    | true =>
      rw [hgood, if_pos rfl] at hend
      refine ⟨_, hexec hend rfl ((countOrphan_quiet _).after rfl rfl), rfl, rfl, ?_, fun _ => rfl, nofun, ?_⟩
      · simp [countOrphan, State.setFlag, raise_flags, mask_getLsbD, -BitVec.getLsbD_eq_getElem, Flag.index]
      · intro p hp; cases p <;> simp [Part.same, inputEnded] at hp ⊢
    | false =>
      rw [hgood, if_neg Bool.false_ne_true] at hend
      refine ⟨_, hexec hend rfl (((countCheckError_quiet _).trans (countOrphan_quiet _)).after rfl rfl), rfl, rfl, ?_, nofun, fun _ => rfl, ?_⟩
      · simp [countOrphan, State.setFlag, raise_flags, mask_getLsbD, -BitVec.getLsbD_eq_getElem, Flag.index]
      · intro p hp; cases p <;> simp [Part.same, inputEnded] at hp ⊢

/-! ### A good own unit (R135, R142 to R145) -/

section OwnUnit

variable {header : List Byte} {s : State}

theorem ownUnit_note (hkind : kindOf header = 0x10 ∨ kindOf header = 0x11) (hlength : payloadLengthOf header = 0) :
    ownUnit header s = ownNote header s := if_pos ⟨hkind, hlength⟩

theorem ownUnit_frame (hkind : kindOf header = 1 ∨ kindOf header = 2 ∨ kindOf header = 3) :
    ownUnit header s = ownFrame header s := by
  have hframe : isFrameKind (kindOf header) = true := by simpa [isFrameKind, or_assoc] using hkind
  have hnote : ¬((kindOf header = presenceKind ∨ kindOf header = markerKind) ∧ payloadLengthOf header = 0) := by
    rcases hkind with h | h | h <;> rw [h] <;> simp [presenceKind, markerKind]
  rw [ownUnit, if_neg hnote, if_pos hframe]

theorem ownNote_clash (h : deviceOf header ≠ s.station.deviceNumber) :
    ownNote header s = { s with spine := { s.spine with hold := { s.spine.hold with addressClash := true } } } := if_pos h

theorem ownNote_return (h : deviceOf header = s.station.deviceNumber)
    (hcurrent : incarnationOf header = s.station.incarnation) (hphase : s.station.phase ≠ .unconfigured) :
    ownNote header s = takeReturn s := by
  rw [ownNote, if_neg (not_not_intro h), if_pos ⟨hcurrent, hphase⟩]

theorem ownNote_stale (h : deviceOf header = s.station.deviceNumber)
    (hstale : incarnationOf header ≠ s.station.incarnation ∨ s.station.phase = .unconfigured) : ownNote header s = s := by
  rw [ownNote, if_neg (not_not_intro h), if_neg]
  rintro ⟨hcurrent, hphase⟩
  exact hstale.elim (fun h => h hcurrent) hphase

end OwnUnit

/-- Settles O44. -/
theorem ownUnitsComeBack : Obligations.OwnUnitsComeBack := by
  intro header rest s hr hf hinput hgood
  have hend := endUnit_good_own hinput hgood
  obtain ⟨t, ht⟩ : ∃ t, t = report s (settled (.unitEnd rest) s) := ⟨_, rfl⟩
  have hexec : exec (.unitEnd rest) s = .next t := by rw [ht, exec_free rfl hr]
  have hsettled : settled (.unitEnd rest) s = settleFrom s (endUnit rest s) := rfl
  have hfollow : t.flagsFollow := ht ▸ report_settled_flagsFollow rfl hr hf
  have hunseen {u : State} (hown : ownUnit header (inputEnded s) = u) (hview : s.drainView = u.drainView) :
      t = report s (arbitrate u) := by
    rw [ht, hsettled, hend, hown, settleFrom_same _ _ (by rw [arbitrate_drainView, hview])]
  refine ⟨fun hkind hlength => ⟨fun hother => ?_, fun hown hcurrent hphase => ?_, fun hown hstale => ?_⟩, fun hkind hown => ?_⟩
  · have ht' := hunseen ((ownUnit_note hkind hlength).trans (ownNote_clash hother)) rfl
    have hhold : t.spine.hold = { s.spine.hold with addressClash := true } := by simp [ht', inputEnded]
    refine ⟨t, hexec, hhold, flag_of_condition hfollow ?_, by simp [ht', inputEnded], by simp [ht', inputEnded],
      by simp [ht', inputEnded], ?_⟩
    · rw [conditions_addressClash, hhold]
    · rw [ht']
      refine sameBut_trans (sameBut_trans ?_ (sameBut_mono (arbitrate_sameBut _) (by simp))) (sameBut_mono (report_sameBut _ _) (by simp))
      intro p hp; cases p <;> simp [Part.same, inputEnded] at hp ⊢
  · have hreturn : endUnit rest s = arbitrate (takeReturn (inputEnded s)) := by
      rw [hend, ownUnit_note hkind hlength, ownNote_return (s := inputEnded s) hown hcurrent hphase]
    rw [hreturn] at hsettled
    have hstation (h : (takeReturn (inputEnded s)).station.phase ≠ .flush) :
        t.station = (takeReturn (inputEnded s)).station := by
      rw [ht, report_station, hsettled]
      exact (station_settling h).settleFrom s _ (arbitrate_station _)
    refine ⟨t, hexec, ?_, ?_, ?_, ?_, ?_, fun hjoining hfirst => ?_, fun hrun => ?_, ?_⟩
    · rw [ht, report_presence, hsettled, settleFrom_presence, arbitrate_presence]
      rfl
    · rw [ht, report_spine, hsettled, settleFrom_spine_hold, arbitrate_spine_hold]
      rfl
    · rw [ht, report_spine, hsettled, settleFrom_spine_input, arbitrate_spine_input]
      rfl
    · rw [ht, report_spine, hsettled, settleFrom_spine_transit, arbitrate_spine_transit]
      rfl
    · rw [ht, report_station, hsettled, settleFrom_station_config, arbitrate_station]
      rfl
    · have hready : (takeReturn (inputEnded s)).station.phase = .ready := if_pos ⟨hfirst, hjoining⟩
      rw [hstation (by rw [hready]; decide), hready]
    · have hstays : (takeReturn (inputEnded s)).station.phase = .run :=
        (if_neg fun h => by simp [inputEnded, hrun] at h).trans hrun
      rw [hstation (by rw [hstays]; decide), hstays]
    · rw [ht]
      refine report_drained_sameBut ?_ (by simp)
      have heffect : effect (.unitEnd rest) s = arbitrate (takeReturn (inputEnded s)) := hreturn
      rw [heffect]
      refine sameBut_trans ?_ (sameBut_mono (arbitrate_sameBut _) (by simp [drainParts]))
      intro p hp; cases p <;> simp [Part.same, takeReturn, inputEnded, drainParts] at hp ⊢
  · have ht' := hunseen ((ownUnit_note hkind hlength).trans (ownNote_stale hown hstale)) rfl
    have hq : Quiet s (arbitrate (inputEnded s)) := (arbitrate_quiet (inputEnded s)).after rfl rfl
    have hquiet : t = arbitrate (inputEnded s) := ht'.trans (hq.report hf)
    refine ⟨t, hexec, by simp [hquiet, inputEnded], by simp [hquiet, inputEnded], by simp [hquiet, inputEnded],
      by simp [hquiet, inputEnded], ?_⟩
    rw [hquiet]
    refine sameBut_trans ?_ (arbitrate_sameBut _)
    intro p hp; cases p <;> simp [Part.same, inputEnded] at hp ⊢
  · have hframe : ownUnit header (inputEnded s) = { inputEnded s with
        spine := { (inputEnded s).spine with hold := { s.spine.hold with archiveAbsent := true } }
        counters := { s.counters with unclaimed := satAdd Config.counter32 s.counters.unclaimed 1 } } :=
      (ownUnit_frame hkind).trans (if_pos hown)
    have ht' := hunseen hframe rfl
    have hhold : t.spine.hold = { s.spine.hold with archiveAbsent := true } := by simp [ht']
    refine ⟨t, hexec, hhold, by simp [ht', satAdd], flag_of_condition hfollow ?_, by simp [ht', inputEnded], by simp [ht', inputEnded],
      by simp [ht', inputEnded], ?_⟩
    · rw [conditions_archiveAbsent, hhold]
    · rw [ht']
      refine sameBut_trans (sameBut_trans ?_ (sameBut_mono (arbitrate_sameBut _) (by simp))) (sameBut_mono (report_sameBut _ _) (by simp))
      intro p hp; cases p <;> simp [Part.same, inputEnded] at hp ⊢

/-! ### A good accepted unit (R65, R134, R147, R149) -/

section HandOn

variable {header : List Byte} {s : State}

theorem isOwnSource_false (h : s.spine.ownAddress ≠ some (sourceOf header)) : s.isOwnSource header = false :=
  decide_eq_false h

theorem handOn_peer (hlength : payloadLengthOf header = 0) (hsource : s.spine.ownAddress ≠ some (sourceOf header)) :
    handOn header s =
      if kindOf header = presenceKind then (if isPeerSource (sourceOf header) then peerPresence header s else s)
      else if kindOf header = markerKind then peerMarker header s
      else if kindOf header = ingestKind ∧ sourceOf header = 0 then ingestNote header s
      else s := by
  rw [handOn, if_neg (not_not_intro hlength), isOwnSource_false hsource, if_neg Bool.false_ne_true]

theorem handOn_presence (hlength : payloadLengthOf header = 0) (hsource : s.spine.ownAddress ≠ some (sourceOf header))
    (hkind : kindOf header = 0x10) (hlow : 1 ≤ (sourceOf header).toNat) (hhigh : (sourceOf header).toNat ≤ 14) :
    handOn header s = peerPresence header s := by
  have hnote : kindOf header = presenceKind := hkind
  have hpeer : isPeerSource (sourceOf header) = true := by simp [isPeerSource, hlow, hhigh]
  rw [handOn_peer hlength hsource, if_pos hnote, if_pos hpeer]

theorem handOn_marker (hlength : payloadLengthOf header = 0) (hsource : s.spine.ownAddress ≠ some (sourceOf header))
    (hkind : kindOf header = 0x11) : handOn header s = peerMarker header s := by
  have hnote : kindOf header = markerKind := hkind
  rw [handOn_peer hlength hsource, if_neg (by rw [hkind]; decide), if_pos hnote]

theorem handOn_ingest (hlength : payloadLengthOf header = 0) (hsource : s.spine.ownAddress ≠ some (sourceOf header))
    (hkind : kindOf header = 0x12) (harchive : sourceOf header = 0) : handOn header s = ingestNote header s := by
  rw [handOn_peer hlength hsource, if_neg (by rw [hkind]; decide), if_neg (by rw [hkind]; decide), if_pos ⟨hkind, harchive⟩]

/-- The seven tests of R65. -/
theorem admitsPeerMarker_iff :
    s.admitsPeerMarker header = true ↔
      sourceOf header ≠ 0 ∧ sourceOf header ≠ 15 ∧ (s.station.phase = .run ∨ s.station.phase = .flush) ∧
        runTagOf header = s.runTag ∧ rateClassOf header = s.rateClass ∧ markerLineOf header ≤ 3 ∧ markerSeqOf header ≠ 0 := by
  simp only [State.admitsPeerMarker, Bool.and_eq_true, Bool.or_eq_true, decide_eq_true_eq, and_assoc]

end HandOn

theorem acceptedEnded_sameBut (header rest : List Byte) (s : State) : sameBut [.spine] s (acceptedEnded header rest s) := by
  intro p hp; cases p <;> simp [Part.same, acceptedEnded] at hp ⊢

/-- Settles O45. -/
theorem peerNotesTaken : Obligations.PeerNotesTaken := by
  refine ⟨fun header rest s hr hf hinput hgood hkind hlength hlow hhigh hsource hpeers => ?_,
    fun header rest s s₁ hr hf hinput hgood hkind hlength hsource hs₁ => ⟨fun hrefused => ?_, ?_⟩⟩
  · obtain ⟨u, hu⟩ : ∃ u, u = acceptedEnded header rest s := ⟨_, rfl⟩
    have hend : endUnit rest s = arbitrate (peerPresence header u) := by
      rw [endUnit_good_accepted hinput hgood, ← hu, handOn_presence hlength (by rw [hu]; exact hsource) hkind hlow hhigh]
    have hview : s.drainView = (arbitrate (peerPresence header u)).drainView := by
      rw [arbitrate_drainView, peerPresence, hu]
      split <;> rfl
    obtain ⟨t, ht⟩ : ∃ t, t = report s (arbitrate (peerPresence header u)) := ⟨_, rfl⟩
    have hsettled : settled (.unitEnd rest) s = arbitrate (peerPresence header u) := by
      have hdrains : settled (.unitEnd rest) s = settleFrom s (endUnit rest s) := rfl
      rw [hdrains, hend, settleFrom_same _ _ hview]
    have hspine : (peerPresence header u).spine = u.spine := peerPresence_sameBut header u .spine (by simp)
    have hpresence : t.presence = (peerPresence header u).presence := by rw [ht, report_presence, arbitrate_presence]
    refine ⟨t, by rw [ht, exec_free rfl hr, hsettled], fun hphase => ?_, fun hphase => ?_, ?_, ?_, ?_, ?_⟩
    · have hu' : u.station.phase = .unconfigured := by rw [hu]; exact hphase
      rw [hpresence, peerPresence, if_pos hu', hu]
      rfl
    · have hu' : u.station.phase ≠ .unconfigured := by rw [hu]; exact hphase
      have htaken : t.presence = { s.presence with
          peers := mapNth (fun _ => peerEntryOf header u) ((sourceOf header).toNat - 1) s.presence.peers } := by
        rw [hpresence, peerPresence, if_neg hu', hu]
        rfl
      refine ⟨by rw [htaken], ?_, fun k hk => ?_⟩
      · obtain ⟨e, he⟩ : ∃ e, s.presence.peers[(sourceOf header).toNat - 1]? = some e :=
          ⟨_, List.getElem?_eq_getElem (by omega)⟩
        rw [htaken, getElem?_mapNth, if_pos rfl, he, hu]
        rfl
      · rw [htaken, getElem?_mapNth, if_neg (Ne.symm hk)]
    · rw [ht, report_spine, arbitrate_spine_hold, hspine, hu]
      rfl
    · rw [ht, report_spine, arbitrate_spine_frames, hspine, hu]
      rfl
    · rw [ht, report_spine, arbitrate_spine_transit, hspine, hu]
      rfl
    · rw [ht]
      have hnote : sameBut [.spine, .presence, .faults] s (peerPresence header u) :=
        sameBut_trans (sameBut_mono (hu ▸ acceptedEnded_sameBut header rest s) (by simp))
          (sameBut_mono (peerPresence_sameBut header u) (by simp))
      exact sameBut_trans (sameBut_trans hnote (sameBut_mono (arbitrate_sameBut _) (by simp)))
        (sameBut_mono (report_sameBut _ _) (by simp))
  all_goals
    have hs₁' : s₁ = acceptedEnded header rest s := hs₁
    have hend : endUnit rest s = arbitrate (peerMarker header s₁) := by
      rw [endUnit_good_accepted hinput hgood, ← hs₁', handOn_marker hlength (by rw [hs₁']; exact hsource) hkind]
    have hstation : s₁.station = s.station := by rw [hs₁']; rfl
    have htag : s₁.runTag = s.runTag := by simp only [State.runTag, hstation]
    have hrate : s₁.rateClass = s.rateClass := by simp only [State.rateClass, hstation]
  · have hadmits : ¬s₁.admitsPeerMarker header = true := by
      rw [admitsPeerMarker_iff, hstation, htag, hrate]
      rintro ⟨hzero, hfifteen, hphase, hsametag, hsamerate, hline, hseq⟩
      rcases hrefused with h | h | ⟨hrun, hflush⟩ | h | h | h | h
      · exact hzero h
      · exact hfifteen h
      · exact hphase.elim hrun hflush
      · exact h hsametag
      · exact h hsamerate
      · exact absurd hline (Nat.not_le.2 h)
      · exact hseq h
    have heffect : effect (.unitEnd rest) s = arbitrate s₁ := by
      refine hend.trans ?_
      rw [peerMarker, if_neg hadmits]
    rw [exec_of_unseen rfl hr hf, heffect]
    · rw [heffect, arbitrate_drainView, hs₁]
      rfl
    · rw [heffect]
      exact (arbitrate_quiet s₁).after (by rw [hs₁]; rfl) (by rw [hs₁])
  · intro hlow hhigh hphase hsametag hsamerate line hline hseq
    have hadmits : s₁.admitsPeerMarker header = true := by
      rw [admitsPeerMarker_iff, hstation, htag, hrate]
      refine ⟨fun h => ?_, fun h => ?_, hphase, hsametag, hsamerate, ?_, hseq⟩
      · rw [h] at hlow
        exact absurd hlow (by decide)
      · rw [h] at hhigh
        exact absurd hhigh (by decide)
      · rw [markerLineOf, hline]
        exact Nat.le_of_lt_succ line.isLt
    have hrequest : peerRequestOf header =
        { origin := sourceOf header, seq := BitVec.ofNat 16 (fieldAt header 16 2), index := fieldAt header 20 6,
          cause := .peerLine line } := by
      have hfin : Fin.ofNat 4 (markerLineOf header) = line := by
        rw [markerLineOf, hline]
        exact Fin.ext (Nat.mod_eq_of_lt line.isLt)
      rw [peerRequestOf, hfin]
      rfl
    have hsettled : settled (.unitEnd rest) s = settleFrom s (endUnit rest s) := rfl
    rw [exec_free rfl hr, hsettled, hend, peerMarker, if_pos hadmits, hrequest]

/-! ### The INGEST note (R124, R149) -/

theorem ingestNote_unconfigured {header : List Byte} {s : State} (h : s.station.phase = .unconfigured) :
    ingestNote header s = { s with spine := { s.spine with hold := { s.spine.hold with archiveAbsent := false } } } := if_pos h

theorem ingestNote_configured {header : List Byte} {s : State} (h : s.station.phase ≠ .unconfigured) :
    ingestNote header s =
      { s with
        spine := { s.spine with hold := { s.spine.hold with archiveAbsent := false, archiveHold := ingestHoldOf header } }
        presence :=
          { s.presence with
            ingest := some (ingestRecordOf header)
            effective := max s.presence.effective (ingestLevelOf header) } } := if_neg h

/-- Settles O46. -/
theorem ingestNoteTaken : Obligations.IngestNoteTaken := by
  intro header rest s hr hf hinput hgood hkind hlength harchive hown
  obtain ⟨u, hu⟩ : ∃ u, u = acceptedEnded header rest s := ⟨_, rfl⟩
  have hend : endUnit rest s = arbitrate (ingestNote header u) := by
    rw [endUnit_good_accepted hinput hgood, ← hu,
      handOn_ingest hlength (by rw [hu, harchive]; exact hown) hkind harchive]
  obtain ⟨t, ht⟩ : ∃ t, t = report s (settled (.unitEnd rest) s) := ⟨_, rfl⟩
  have hsettled : settled (.unitEnd rest) s = settleFrom s (arbitrate (ingestNote header u)) := by
    rw [← hend]
    rfl
  have hfollow : t.flagsFollow := ht ▸ report_settled_flagsFollow rfl hr hf
  have hpresence : t.presence = (ingestNote header u).presence := by
    rw [ht, report_presence, hsettled, settleFrom_presence, arbitrate_presence]
  have hhold : t.spine.hold = (ingestNote header u).spine.hold := by
    rw [ht, report_spine, hsettled, settleFrom_spine_hold, arbitrate_spine_hold]
  have hphaseOf : u.station.phase = s.station.phase := by rw [hu]; rfl
  refine ⟨t, by rw [ht, exec_free rfl hr], ?_, fun hphase => ?_, fun hphase => ?_, ?_⟩
  · rw [hhold, ingestNote]
    split <;> rfl
  · rw [hpresence, hhold, ingestNote_unconfigured (hphaseOf.trans hphase), hu]
    exact ⟨rfl, rfl⟩
  · have hnote := ingestNote_configured (header := header) (hphaseOf.trans_ne hphase)
    refine ⟨by rw [hpresence, hnote, hu]; rfl, by rw [hhold, hnote, hu]; rfl, fun hset => flag_of_condition hfollow ?_⟩
    rw [conditions_archiveHold, hhold, hnote]
    exact hset
  · rw [ht]
    refine report_drained_sameBut ?_ (by simp)
    have heffect : effect (.unitEnd rest) s = arbitrate (ingestNote header u) := hend
    rw [heffect]
    have hnote : sameBut (.presence :: drainParts) s (ingestNote header u) :=
      sameBut_trans (sameBut_mono (hu ▸ acceptedEnded_sameBut header rest s) (by simp [drainParts]))
        (sameBut_mono (ingestNote_sameBut header u) (by simp [drainParts]))
    exact sameBut_trans hnote (sameBut_mono (arbitrate_sameBut _) (by simp [drainParts]))

end Sys2Proof.Machine
end

section
/-! PROOFS. The spine: header arrival, and the output's arbiter (R93, R119, R122, R125 to R132, R135 to R137). -/

namespace Sys2Proof.Machine

/-! ### The arbiter's choice (R127) -/

section ChooseOutput

variable {s : State}

theorem chooseOutput_above (htransit : s.spine.transit ≠ []) (habove : 32704 < occupancy s.spine.transit) :
    chooseOutput s = { s with spine := { s.spine with port := .forwarding } } := if_pos ⟨htransit, habove⟩

theorem chooseOutput_note {n : Note} {notes : List Note} (hbelow : occupancy s.spine.transit ≤ 32704)
    (heligible : s.notesEligible = true) (hnotes : s.spine.notes = n :: notes) :
    chooseOutput s = { s with spine := { s.spine with port := .insertingNote n, notes := notes } } := by
  rw [chooseOutput, if_neg fun h => absurd h.2 (Nat.not_lt.2 hbelow), heligible, hnotes]

/-- With no note to insert it is the head frame if the hold set is empty, waiting transit, or nothing. -/
theorem chooseOutput_without_note (hbelow : occupancy s.spine.transit ≤ 32704)
    (hnone : s.notesEligible = false ∨ s.spine.notes = []) :
    chooseOutput s =
      if s.spine.hold.isEmpty = true ∧ s.spine.frames ≠ [] then
        { s with spine := { s.spine with port := .insertingFrame } }
      else if s.spine.transit ≠ [] then { s with spine := { s.spine with port := .forwarding } }
      else s := by
  rw [chooseOutput, if_neg fun h => absurd h.2 (Nat.not_lt.2 hbelow)]
  split
  · next heligible hnotes => rcases hnone with h | h <;> simp_all
  · rfl

end ChooseOutput

theorem isEmpty_iff (h : HoldSet) : h.isEmpty = true ↔ h = ⟨false, false, false, false, false⟩ := by
  obtain ⟨a, b, c, d, e⟩ := h
  simp [HoldSet.isEmpty, and_assoc]

theorem notesEligible_iff (s : State) :
    s.notesEligible = true ↔ s.station.phase ≠ .unconfigured ∧ s.spine.hold.addressClash = false := by
  simp [State.notesEligible]

/-- An accepted unit finds nothing else to send: it is forwarded at once (R127). -/
theorem chooseOutput_forwards {s : State} (htransit : s.spine.transit ≠ [])
    (hnone : s.notesEligible = false ∨ s.spine.notes = []) (hframe : s.spine.hold.isEmpty = false ∨ s.spine.frames = []) :
    chooseOutput s = { s with spine := { s.spine with port := .forwarding } } := by
  by_cases habove : 32704 < occupancy s.spine.transit
  · exact chooseOutput_above htransit habove
  · have hheld : ¬(s.spine.hold.isEmpty = true ∧ s.spine.frames ≠ []) := by
      rintro ⟨hempty, hframes⟩
      rcases hframe with h | h
      · simp [h] at hempty
      · exact hframes h
    rw [chooseOutput_without_note (Nat.not_lt.1 habove) hnone, if_neg hheld, if_pos htransit]

/-! ### Header arrival (R130, R131) -/

section Arrival

variable {header : List Byte} {s : State}

theorem badLength_iff : badLength header = true ↔ 16384 < payloadLengthOf header ∨ payloadLengthOf header % 4 ≠ 0 := by
  rw [badLength, Bool.or_eq_true]
  exact or_congr decide_eq_true_iff decide_eq_true_iff

theorem isOwnSource_iff : s.isOwnSource header = true ↔ s.spine.ownAddress = some (sourceOf header) := decide_eq_true_iff

theorem arriveHeader_badLength (h : badLength header = true) :
    arriveHeader header s = countCheckError (setInput header .discarded s) := by
  rw [arriveHeader, State.judgeArrival, if_pos h]

variable (hlength : badLength header = false)
include hlength

theorem arriveHeader_own (hown : s.spine.ownAddress = some (sourceOf header)) :
    arriveHeader header s = setInput header .strippedOwn s := by
  rw [arriveHeader, State.judgeArrival, if_neg (by simp [hlength]), if_pos (isOwnSource_iff.2 hown)]

variable (hother : s.spine.ownAddress ≠ some (sourceOf header))
include hother

theorem arriveHeader_orphan (hhop : 15 ≤ hopOf header) : arriveHeader header s = setInput header .strippedOrphan s := by
  rw [arriveHeader, State.judgeArrival, if_neg (by simp [hlength]), if_neg (mt isOwnSource_iff.1 hother), if_pos hhop]

variable (hhop : hopOf header < 15)
include hhop

theorem arriveHeader_overflow (hfull : 49152 < occupancy s.spine.transit + unitLengthOf header) :
    arriveHeader header s = countOverflow (setInput header .discarded s) := by
  rw [arriveHeader, State.judgeArrival, if_neg (by simp [hlength]), if_neg (mt isOwnSource_iff.1 hother),
    if_neg (Nat.not_le.2 hhop), if_pos hfull]

theorem arriveHeader_accepted (hroom : occupancy s.spine.transit + unitLengthOf header ≤ 49152) :
    arriveHeader header s = acceptUnit header (setInput header .accepted s) := by
  rw [arriveHeader, State.judgeArrival, if_neg (by simp [hlength]), if_neg (mt isOwnSource_iff.1 hother),
    if_neg (Nat.not_le.2 hhop), if_neg (Nat.not_lt.2 hroom)]

end Arrival

/-- The bytes sent reach the transit buffer alone (R127). -/
theorem noteSent_eq (sent : Nat) (s : State) :
    noteSent sent s = { s with spine := { s.spine with transit := (noteSent sent s).spine.transit } } := by
  rw [noteSent]
  split <;> rfl

/-- Settles O42. -/
theorem headerArrivalJudged : Obligations.HeaderArrivalJudged := by
  intro header sent s s₁ hr hf hinput hs₁
  have hawaiting : s.awaitingEnd = false := by
    rcases hinput with h | ⟨h', h⟩ <;> simp [State.awaitingEnd, h]
  have heffect : effect (.unitHeaderArrival header sent) s = arriveHeader header.toList s₁ := by
    rw [hs₁]
    exact if_neg (by simp [hawaiting])
  obtain ⟨transit, hsent⟩ : ∃ transit, s₁ = { s with spine := { s.spine with transit := transit } } :=
    ⟨_, hs₁.trans (noteSent_eq sent s)⟩
  have hown : s₁.spine.ownAddress = s.spine.ownAddress := by rw [hsent]
  have hquiet : Quiet s s₁ := by
    rw [hsent]
    exact .of_same rfl rfl
  have hexec {t : State} (harrive : arriveHeader header.toList s₁ = t) (hq : Quiet s₁ t) :
      exec (.unitHeaderArrival header sent) s = .next t := by
    have heffect' := heffect.trans harrive
    rw [exec_of_quiet_alone rfl rfl hr hf (heffect'.symm ▸ hquiet.trans hq), heffect']
  refine ⟨fun hbad => ?_, fun hsize hmultiple => ?_⟩
  · rw [hexec (arriveHeader_badLength (badLength_iff.2 hbad)) ((countCheckError_quiet (setInput header.toList .discarded s₁)).after rfl rfl), hsent]
    rfl
  have hlength : badLength header.toList = false := by
    rw [← Bool.not_eq_true, badLength_iff]
    omega
  refine ⟨fun hsource => ?_, fun hother hhop => ?_, fun hother hhop hfull => ?_, fun hother hhop hroom => ?_⟩
  · rw [hexec (arriveHeader_own hlength (hown.trans hsource)) (.of_same rfl rfl)]
    rfl
  · rw [hexec (arriveHeader_orphan hlength (hown.trans_ne hother) hhop) (.of_same rfl rfl)]
    rfl
  · rw [hexec (arriveHeader_overflow hlength (hown.trans_ne hother) hhop hfull)
      (quiet_setFlag (by decide) rfl rfl), hsent]
    rfl
  · obtain ⟨u, hu⟩ : ∃ u : State, u =
      { s₁ with
        spine :=
          { s₁.spine with
            input := some { header := header.toList, fate := .accepted }
            transit :=
              s₁.spine.transit ++
                [{ header := header.toList, length := unitLengthOf header.toList, received := 60 }] } } := ⟨_, rfl⟩
    have haccepted : arriveHeader header.toList s₁ = arbitrate u := by
      rw [arriveHeader_accepted hlength (hown.trans_ne hother) hhop hroom, hu]
      rfl
    refine ⟨_, hexec haccepted ((arbitrate_quiet u).after (by rw [hu]; rfl) (by rw [hu])), ?_, ?_, fun hbusy => ?_, fun hfree hnone hframe => ?_, ?_, ?_, ?_⟩
    · rw [arbitrate_spine_transit, hu]
      rfl
    · rw [arbitrate_spine_input, hu]
    · have hport : u.spine.port = s.spine.port := by rw [hu, hsent]
      rw [arbitrate_busy _ (hport.trans_ne hbusy), hu, hsent]
      exact ⟨rfl, rfl⟩
    · have hport : u.spine.port = .free := by rw [hu, hsent]; exact hfree
      have hforwards : chooseOutput u = { u with spine := { u.spine with port := .forwarding } } := by
        refine chooseOutput_forwards ?_ ?_ ?_ <;> rw [hu, hsent]
        · simp
        · exact hnone
        · exact hframe
      rw [arbitrate, if_pos hport, hforwards]
    · rw [arbitrate_spine_frames, hu, hsent]
    · rw [arbitrate_spine_hold, hu, hsent]
    · refine sameBut_trans ?_ (arbitrate_sameBut u)
      rw [hu, hsent]
      intro p hp; cases p <;> simp [Part.same] at hp ⊢

/-! ### The output's ends (R122, R125 to R127, R129, R132) -/

/-- The output port has just sent a unit, and is FREE: of the state only the transit buffer has moved beside them. -/
def sentUnit (sent : List Byte) (transit : List TransitUnit) (s : State) : State :=
  { s with spine := { s.spine with port := .free, lastSent := some sent, transit := transit } }

theorem sentUnit_sameBut (sent : List Byte) (transit : List TransitUnit) (s : State) :
    sameBut [.spine] s (arbitrate (sentUnit sent transit s)) := by
  refine sameBut_trans ?_ (arbitrate_sameBut _)
  intro p hp; cases p <;> simp [Part.same, sentUnit] at hp ⊢

theorem sentUnit_quiet (sent : List Byte) (transit : List TransitUnit) (s : State) :
    Quiet s (arbitrate (sentUnit sent transit s)) := (arbitrate_quiet (sentUnit sent transit s)).after rfl rfl

theorem arbitrate_sentUnit (sent : List Byte) (transit : List TransitUnit) (s : State) :
    arbitrate (sentUnit sent transit s) = chooseOutput (sentUnit sent transit s) := if_pos rfl

/-- The choice of R127 after a unit was sent. -/
theorem sentUnit_choice (sent : List Byte) (transit : List TransitUnit) (s t : State)
    (ht : t = arbitrate (sentUnit sent transit s)) :
    (transit ≠ [] → 32704 < occupancy transit → t.spine.port = .forwarding ∧ t.spine.notes = s.spine.notes) ∧
    (occupancy transit ≤ 32704 →
      (∀ n notes, s.spine.notes = n :: notes → s.station.phase ≠ .unconfigured → s.spine.hold.addressClash = false →
        t.spine.port = .insertingNote n ∧ t.spine.notes = notes) ∧
      (s.spine.notes = [] ∨ s.station.phase = .unconfigured ∨ s.spine.hold.addressClash = true →
        t.spine.notes = s.spine.notes ∧
        (s.spine.frames ≠ [] → s.spine.hold = ⟨false, false, false, false, false⟩ → t.spine.port = .insertingFrame) ∧
        (s.spine.frames = [] ∨ s.spine.hold ≠ ⟨false, false, false, false, false⟩ →
          t.spine.port = if transit = [] then .free else .forwarding))) := by
  rw [arbitrate_sentUnit] at ht
  have heligible : (sentUnit sent transit s).notesEligible = true ↔
      s.station.phase ≠ .unconfigured ∧ s.spine.hold.addressClash = false := notesEligible_iff _
  refine ⟨fun htransit habove => ?_, fun hbelow => ⟨fun n notes hnotes hphase hclash => ?_, fun hnone => ?_⟩⟩
  · rw [ht, chooseOutput_above htransit habove]
    exact ⟨rfl, rfl⟩
  · rw [ht, chooseOutput_note hbelow (heligible.2 ⟨hphase, hclash⟩) hnotes]
    exact ⟨rfl, rfl⟩
  · have hnone' : (sentUnit sent transit s).notesEligible = false ∨ (sentUnit sent transit s).spine.notes = [] := by
      rcases hnone with h | h | h
      · exact .inr h
      · exact .inl (Bool.eq_false_iff.2 fun htrue => (heligible.1 htrue).1 h)
      · exact .inl (Bool.eq_false_iff.2 fun htrue => by simpa [h] using (heligible.1 htrue).2)
    have hchoice := chooseOutput_without_note (s := sentUnit sent transit s) hbelow hnone'
    rw [ht, hchoice]
    refine ⟨?_, fun hframes hempty => ?_, fun hnot => ?_⟩
    · split
      · rfl
      · split <;> rfl
    · have hinsert : (sentUnit sent transit s).spine.hold.isEmpty = true ∧ (sentUnit sent transit s).spine.frames ≠ [] :=
        ⟨(isEmpty_iff _).2 hempty, hframes⟩
      rw [if_pos hinsert]
    · have hinsert : ¬((sentUnit sent transit s).spine.hold.isEmpty = true ∧ (sentUnit sent transit s).spine.frames ≠ []) := by
        rintro ⟨hempty, hframes⟩
        exact hnot.elim hframes fun h => h ((isEmpty_iff _).1 hempty)
      have htransits : (sentUnit sent transit s).spine.transit = transit := rfl
      rw [if_neg hinsert, htransits]
      by_cases htransit : transit = []
      · rw [if_neg (not_not_intro htransit), if_pos htransit]
        rfl
      · rw [if_pos htransit, if_neg htransit]

theorem endFrame_inserting {f : Frame} {frames : List Frame} {s : State} (hport : s.spine.port = .insertingFrame)
    (hframes : s.spine.frames = f :: frames) :
    endFrame s =
      outputFreed
        { s with
          spine :=
            { s.spine with lastSent := some (sealUnit (frameHeader f) (framePayload f.body)), frames := frames } } := by
  have hsent : s.outputUnit = some (sealUnit (frameHeader f) (framePayload f.body)) := by
    rw [State.outputUnit, hport, hframes]
  rw [endFrame, hport, noteSentUnit, hsent, hframes]
  rfl

/-- Settles O47. -/
theorem outputEndsBringAChoice : Obligations.OutputEndsBringAChoice := by
  refine ⟨fun arrived s x sent c hr hf hcase => ?_, fun arrived before u s htransit => ⟨fun hended => ?_, fun harriving hmore hfits hlast => ?_⟩,
    fun arrived f frames s hr hport hframes => ?_⟩
  · have heffect : drains c = false ∧ resets c = false ∧ effect c s = arbitrate (sentUnit sent x.spine.transit s) := by
      rcases hcase with ⟨⟨n, hport, rfl⟩, rfl, rfl⟩ | ⟨u, rest, hport, rfl, htransit, hlength, rfl, rfl⟩
      · obtain ⟨hend, hsent⟩ := endNote_inserting (noteReceived arrived s) n hport
        refine ⟨rfl, rfl, hend.trans ?_⟩
        rw [noteSentUnit, hsent]
        rfl
      · obtain ⟨hend, hsent⟩ := endForwarding_ended (noteReceived arrived s) u rest hport htransit hlength
        refine ⟨rfl, rfl, hend.trans ?_⟩
        rw [noteSentUnit, hsent]
        rfl
    obtain ⟨hdrains, hresets, heffect⟩ := heffect
    have hexec := exec_of_quiet_alone hresets hdrains hr hf (heffect ▸ sentUnit_quiet sent x.spine.transit s)
    obtain ⟨habove, hbelow⟩ := sentUnit_choice sent x.spine.transit s _ rfl
    refine ⟨_, hexec, ?_, ?_, ?_, ?_, ?_, ?_, ?_⟩ <;> rw [heffect]
    · exact arbitrate_spine_lastSent _
    · exact arbitrate_spine_transit _
    · exact arbitrate_spine_frames _
    · exact arbitrate_spine_hold _
    · exact sentUnit_sameBut sent x.spine.transit s
    · exact habove
    · exact hbelow
  · rw [noteReceived, htransit, mapLast_snoc, TransitUnit.arrived, if_pos hended]
  · have hreceived : max u.received (min (60 + arrived.length) u.length) = min (60 + arrived.length) u.length := by omega
    rw [noteReceived, htransit, mapLast_snoc, TransitUnit.arrived, if_neg (by simp [harriving]), if_pos hmore]
    exact congrArg (fun n => before ++ [{ u with body := arrived.take (u.length - 60), received := n }]) hreceived
  · have hend := endFrame_inserting (s := noteReceived arrived s) hport hframes
    obtain ⟨y, hy⟩ : ∃ y, y = endFrame (noteReceived arrived s) := ⟨_, rfl⟩
    rw [← hy] at hend
    have hsettled : settled (.frameInsertionComplete arrived) s = settleFrom s y := by rw [hy]; rfl
    have hkeeps := drained_keeps s y
    refine ⟨_, by rw [exec_free rfl hr, hsettled], ?_, ?_, ?_, ?_, ?_, ?_, ?_⟩
    · have hfreed : y.spine.frames = frames := by rw [hend, outputFreed_spine_frames]
      exact hfreed ▸ hkeeps.frames
    · rw [hkeeps.lastSent, hend, outputFreed_spine_lastSent]
    · rw [hkeeps.transit, hend, outputFreed_spine_transit]
    · rw [hkeeps.hold, hend, outputFreed_spine_hold]
      rfl
    · rw [hkeeps.dram, hend, outputFreed_memory]
      rfl
    · rw [hkeeps.storedCount, hend, outputFreed_memory]
      rfl
    · rw [← hsettled]
      exact report_drained_sameBut (sameBut_mono (effect_sameBut (.frameInsertionComplete arrived) s) (by simp [reach, drainParts])) (by simp)

end Sys2Proof.Machine
end

section
/-! PROOFS. Units read back (R117, R129, R132, R133, R182, R183, R185): little-endian fields, the common header, what a note and a
frame carry, and the check word under forwarding. -/

namespace Sys2Proof.Machine

/-! ### Little-endian fields -/

theorem leValue_of_leBytes (size value : Nat) : leValue (leBytes size value) = value % 256 ^ size := by
  induction size generalizing value with
  | zero => rw [pow_zero, Nat.mod_one]; rfl
  | succ size ih =>
    have hbyte : (BitVec.ofNat 8 value).toNat = value % 256 := BitVec.toNat_ofNat ..
    rw [leBytes, leValue, ih, hbyte, Nat.pow_succ', Nat.mod_mul]

theorem leValue_leBytes_of_lt {size value : Nat} (h : value < 256 ^ size) : leValue (leBytes size value) = value := by
  rw [leValue_of_leBytes, Nat.mod_eq_of_lt h]

/-- A word's own bytes read back. -/
theorem leValue_leBytes_toNat {size w : Nat} (word : BitVec w) (h : 2 ^ w ≤ 256 ^ size) :
    leValue (leBytes size word.toNat) = word.toNat := leValue_leBytes_of_lt (Nat.lt_of_lt_of_le word.isLt h)

/-- A field whose bytes are a number's reads back as the number. -/
theorem fieldAt_of_leBytes {bytes : List Byte} {offset size value : Nat}
    (hbytes : fieldAt bytes offset size = leValue (leBytes size value)) (h : value < 256 ^ size) :
    fieldAt bytes offset size = value := by
  rw [hbytes, leValue_leBytes_of_lt h]

theorem toNat_ofNat_byte {n : Nat} (h : n < 256) : (BitVec.ofNat 8 n).toNat = n := by
  rw [BitVec.toNat_ofNat, Nat.mod_eq_of_lt h]

/-! ### The check word (R132, R133, R185) -/

/-- The check word takes the hop count as 0, so that raising it changes nothing (R185). -/
theorem checkWord_raised (header payload : List Byte) :
    checkWord (mapNth (· + 1) 1 header) payload = checkWord header payload := by
  have hzeroed : mapNth (fun _ => (0 : Byte)) 1 (mapNth (· + 1) 1 header) = mapNth (fun _ => 0) 1 header := by
    rcases header with - | ⟨kind, - | ⟨hop, fields⟩⟩ <;> rfl
  rw [checkWord, hzeroed, checkWord]

theorem isGood_raised {header rest : List Byte} (h : 2 ≤ header.length) :
    isGood (mapNth (· + 1) 1 header) rest = isGood header rest := by
  obtain ⟨kind, hop, fields, rfl⟩ : ∃ kind hop fields, header = kind :: hop :: fields := by
    rcases header with - | ⟨kind, - | ⟨hop, fields⟩⟩
    · simp at h
    · simp at h
    · exact ⟨kind, hop, fields, rfl⟩
  have hlength : payloadLengthOf (mapNth (· + 1) 1 (kind :: hop :: fields)) = payloadLengthOf (kind :: hop :: fields) := rfl
  rw [isGood, isGood, unitLengthOf, unitLengthOf, checkWord_raised, hlength]

theorem crc32_check_value : crc32 [0x31, 0x32, 0x33, 0x34, 0x35, 0x36, 0x37, 0x38, 0x39] = 0xCBF43926 := by
  decide +kernel

section Sealed

variable {header payload : List Byte} (hheader : header.length = 60)
include hheader

theorem sealUnit_drop : (sealUnit header payload).drop 60 = payload ++ leBytes 4 (checkWord header payload).toNat := by
  rw [sealUnit, List.append_assoc, ← hheader, List.drop_left]

/-- What is sealed is good where the header declares the payload's length (R129, R133). -/
theorem isGood_sealed (hlength : payloadLengthOf header = payload.length) :
    isGood header ((sealUnit header payload).drop 60) = true := by
  rw [sealUnit_drop hheader, isGood_iff, unitLengthOf, hlength, List.take_left, fieldAt, List.drop_left,
    List.take_of_length_le (by simp), leValue_leBytes_toNat _ (by decide)]
  refine ⟨?_, rfl⟩
  simp
  omega

theorem sealed_payload : ((sealUnit header payload).drop 60).take payload.length = payload := by
  rw [sealUnit_drop hheader, List.take_left]

end Sealed

/-! ### The common header (R182) -/

section CommonHeader

variable (kind destination : Byte) (o : UnitOrigin) (length : Nat) (fields : List Byte)

theorem commonHeader_length : (commonHeader kind destination o length).length = 16 := rfl

theorem deviceOf_commonHeader : deviceOf (commonHeader kind destination o length ++ fields) = o.device := by
  have hfield : fieldAt (commonHeader kind destination o length ++ fields) 4 4 = leValue (leBytes 4 o.device.toNat) := rfl
  rw [deviceOf, hfield, leValue_leBytes_toNat _ (by decide), BitVec.ofNat_toNat, BitVec.setWidth_eq]

variable {length} in
theorem payloadLengthOf_commonHeader (h : length < 65536) :
    payloadLengthOf (commonHeader kind destination o length ++ fields) = length := by
  have hfield : payloadLengthOf (commonHeader kind destination o length ++ fields) = leValue (leBytes 2 length) := rfl
  rw [hfield, leValue_leBytes_of_lt h]

end CommonHeader

/-! ### Notes (R183) -/

theorem noteFields_length (b : NoteBody) : (noteFields b).length = 44 := by
  cases b <;> simp [noteFields, zeros]

theorem noteHeader_length (n : Note) : (noteHeader n).length = 60 := by
  rw [noteHeader, List.length_append, commonHeader_length, noteFields_length]

theorem noteHeader_payloadLength (n : Note) : payloadLengthOf (noteHeader n) = 0 :=
  payloadLengthOf_commonHeader _ _ _ _ (by decide)

theorem levelOf_ofNat (level : Level) : levelOf (BitVec.ofNat 8 level) = level := by
  revert level
  decide

/-- A MARKER note gives a peer the request it announces (R65, R183). -/
theorem peerRequestOf_markerNote (o : UnitOrigin) (seq : BitVec 16) (line : Fin 4) {index : Nat} (h : index < 2 ^ 48) :
    peerRequestOf (noteHeader { origin := o, body := .marker seq line index }) =
      { origin := o.source, seq := seq, index := index, cause := .peerLine line } := by
  obtain ⟨header, hheader⟩ : ∃ header, header = noteHeader { origin := o, body := .marker seq line index } := ⟨_, rfl⟩
  have hseq : markerSeqOf header = seq := by
    have hfield : fieldAt header 16 2 = leValue (leBytes 2 seq.toNat) := by rw [hheader]; rfl
    rw [markerSeqOf, hfield, leValue_leBytes_toNat _ (by decide), BitVec.ofNat_toNat, BitVec.setWidth_eq]
  have hindex : markerIndexOf header = index := by
    have hfield : fieldAt header 20 6 = leValue (leBytes 6 index) := by rw [hheader]; rfl
    rw [markerIndexOf, hfield, leValue_leBytes_of_lt h]
  have hline : Fin.ofNat 4 (markerLineOf header) = line := by
    have hbyte : markerLineOf header = (BitVec.ofNat 8 line.val).toNat := by rw [hheader]; rfl
    rw [hbyte, toNat_ofNat_byte (by omega)]
    exact Fin.ext (Nat.mod_eq_of_lt line.isLt)
  have hsource : sourceOf header = o.source := by rw [hheader]; rfl
  rw [← hheader, peerRequestOf, hseq, hindex, hline, hsource]

/-- A PRESENCE note gives a peer the fields it keeps (R147, R183). -/
theorem presenceNote_fields (o : UnitOrigin) (seq : BitVec 16) (phase : StationPhase) (demand effective : Level) (fill : Nat)
    (hold : HoldSet) (lastMarker : BitVec 16) {header : List Byte}
    (hheader : header = noteHeader { origin := o, body := .presence seq phase demand effective fill hold lastMarker }) :
    presenceSeqOf header = seq ∧ presenceDemandOf header = demand ∧ presenceFillOf header = BitVec.ofNat 16 fill := by
  have hseq : fieldAt header 16 2 = leValue (leBytes 2 seq.toNat) := by rw [hheader]; rfl
  have hdemand : byteAt header 19 = BitVec.ofNat 8 demand := by rw [hheader]; rfl
  have hfill : fieldAt header 22 2 = leValue (leBytes 2 fill) := by rw [hheader]; rfl
  refine ⟨?_, ?_, ?_⟩
  · rw [presenceSeqOf, hseq, leValue_leBytes_toNat _ (by decide), BitVec.ofNat_toNat, BitVec.setWidth_eq]
  · rw [presenceDemandOf, hdemand, levelOf_ofNat]
  · rw [presenceFillOf, hfill, leValue_of_leBytes]
    exact BitVec.eq_of_toNat_eq (by simp)

/-! ### Frames (R183) -/

theorem frameFields_length (b : FrameBody) : (frameFields b).2.length = 36 := by
  cases b <;> simp [frameFields, zeros]

/-- The bytes of a frame from offset 16 on (R183). -/
def frameTail (f : Frame) : List Byte :=
  leBytes 4 f.seq.toNat ++ [f.segOrigin, (frameFields f.body).1] ++ leBytes 2 f.segSeq.toNat ++ (frameFields f.body).2

theorem frameHeader_eq (f : Frame) :
    frameHeader f = commonHeader (frameKind f.body) 0 f.origin (framePayload f.body).length ++ frameTail f := by
  simp only [frameHeader, frameTail, List.append_assoc]

theorem frameHeader_length (f : Frame) : (frameHeader f).length = 60 := by
  simp [frameHeader_eq, frameTail, commonHeader_length, frameFields_length]

theorem isFrameKind_frameKind (b : FrameBody) : isFrameKind (frameKind b) = true := by
  cases b <;> rfl

theorem gapCauseCode_eq (cause : GapCause) :
    gapCauseCode cause =
      match cause with
      | .drop .lane => 0x01
      | .drop .thermal => 0x02
      | .drop .ringFull => 0x03
      | .drop .portBusy => 0x04
      | .memory => 0x05 := by
  rcases cause with (- | - | - | -) | - <;> rfl

/-- A DATA frame's own fields (R183). -/
theorem dataFrame_fields {f : Frame} {first span channels clip pairs : Nat} {level : Level} {payload : List Byte}
    (hbody : f.body = .data first span level channels clip pairs payload) (hfirst : first < 2 ^ 48) (hspan : span < 2 ^ 32)
    (hchannels : channels < 256) (hclip : clip < 256) (hpairs : pairs < 2 ^ 16) :
    kindOf (frameHeader f) = 0x01 ∧ fieldAt (frameHeader f) 24 6 = first ∧ fieldAt (frameHeader f) 32 4 = span ∧
      (byteAt (frameHeader f) 36).toNat = level.val ∧ (byteAt (frameHeader f) 37).toNat = channels ∧
      (byteAt (frameHeader f) 38).toNat = clip ∧ fieldAt (frameHeader f) 40 2 = pairs := by
  obtain ⟨origin, seq, segOrigin, segSeq, body⟩ := f
  subst hbody
  exact ⟨rfl, fieldAt_of_leBytes rfl hfirst, fieldAt_of_leBytes rfl hspan, toNat_ofNat_byte (by omega), toNat_ofNat_byte hchannels,
    toNat_ofNat_byte hclip, fieldAt_of_leBytes rfl hpairs⟩

/-- A GAP frame's own fields (R183). -/
theorem gapFrame_fields {f : Frame} {first count : Nat} {cause : GapCause} {held : Bool}
    (hbody : f.body = .gap first count cause held) (hfirst : first < 2 ^ 48) (hcount : count < 2 ^ 64) :
    kindOf (frameHeader f) = 0x02 ∧ fieldAt (frameHeader f) 24 6 = first ∧ fieldAt (frameHeader f) 32 8 = count ∧
      byteAt (frameHeader f) 40 = gapCauseCode cause ∧ byteAt (frameHeader f) 41 = if held then 0x01 else 0x00 := by
  obtain ⟨origin, seq, segOrigin, segSeq, body⟩ := f
  subst hbody
  refine ⟨rfl, fieldAt_of_leBytes rfl hfirst, fieldAt_of_leBytes rfl hcount, rfl, ?_⟩
  cases held <;> rfl

/-- The two presence bits of a TRAILER (R183). -/
theorem bits_of_two (a b : Bool) :
    (BitVec.ofNat 8 (bit a + 2 * bit b)).getLsbD 0 = a ∧ (BitVec.ofNat 8 (bit a + 2 * bit b)).getLsbD 1 = b := by
  revert a b
  decide

/-- A TRAILER's own fields (R183). -/
theorem trailerFrame_fields {f : Frame} {start ending dataFrames gapFrames gapSamples absorbed : Nat} {requested : Option Nat}
    {levels : Option LevelRange}
    (hbody : f.body = .trailer start ending requested dataFrames gapFrames gapSamples levels absorbed)
    (hstart : start < 2 ^ 48) (hending : ending < 2 ^ 48) (hrequested : requested.getD 0 < 2 ^ 48)
    (hdata : dataFrames < 2 ^ 32) (hgaps : gapFrames < 2 ^ 32) (hsamples : gapSamples < 2 ^ 56) (habsorbed : absorbed < 2 ^ 16) :
    kindOf (frameHeader f) = 0x03 ∧ fieldAt (frameHeader f) 24 6 = start ∧ fieldAt (frameHeader f) 30 6 = ending ∧
      (byteAt (frameHeader f) 21).getLsbD 0 = requested.isSome ∧ (byteAt (frameHeader f) 21).getLsbD 1 = levels.isSome ∧
      fieldAt (frameHeader f) 36 6 = requested.getD 0 ∧ fieldAt (frameHeader f) 42 4 = dataFrames ∧
      fieldAt (frameHeader f) 46 4 = gapFrames ∧ fieldAt (frameHeader f) 50 7 = gapSamples ∧
      (∀ range, levels = some range →
        (byteAt (frameHeader f) 57).toNat % 16 = range.lowest.val ∧
        (byteAt (frameHeader f) 57).toNat / 16 = range.highest.val) ∧
      (levels = none → byteAt (frameHeader f) 57 = 0) ∧ fieldAt (frameHeader f) 58 2 = absorbed := by
  obtain ⟨origin, seq, segOrigin, segSeq, body⟩ := f
  subst hbody
  refine ⟨rfl, fieldAt_of_leBytes rfl hstart, fieldAt_of_leBytes rfl hending, ?_, ?_, fieldAt_of_leBytes rfl hrequested,
    fieldAt_of_leBytes rfl hdata, fieldAt_of_leBytes rfl hgaps, fieldAt_of_leBytes rfl hsamples, ?_, ?_,
    fieldAt_of_leBytes rfl habsorbed⟩
  · exact (bits_of_two requested.isSome levels.isSome).1
  · exact (bits_of_two requested.isSome levels.isSome).2
  · rintro range rfl
    have hbyte : (BitVec.ofNat 8 (range.lowest.val + 16 * range.highest.val)).toNat =
        range.lowest.val + 16 * range.highest.val := toNat_ofNat_byte (by omega)
    refine ⟨(congrArg (· % 16) hbyte).trans ?_, (congrArg (· / 16) hbyte).trans ?_⟩
    · omega
    · omega
  · rintro rfl
    rfl

/-- Settles O48. -/
theorem unitsReadBack : Obligations.UnitsReadBack := by
  refine ⟨⟨checkWord_raised, fun header rest h => isGood_raised h, crc32_check_value⟩, fun n => ?_, fun f hlong hmultiple => ?_⟩
  · have hlength := noteHeader_length n
    refine ⟨hlength, isGood_sealed hlength (noteHeader_payloadLength n), ?_, rfl, rfl, deviceOf_commonHeader _ _ _ _ _, rfl, rfl, rfl,
      fun seq line index hbody hindex => ?_, fun seq phase demand effective fill hold lastMarker hbody => ?_⟩
    · rw [unitLengthOf, noteHeader_payloadLength]
    · obtain ⟨origin, body⟩ := n
      subst hbody
      exact ⟨rfl, peerRequestOf_markerNote origin seq line hindex⟩
    · obtain ⟨origin, body⟩ := n
      subst hbody
      exact ⟨rfl, presenceNote_fields origin seq phase demand effective fill hold lastMarker rfl⟩
  · have hlength := frameHeader_length f
    have hpayload : payloadLengthOf (frameHeader f) = (framePayload f.body).length := by
      rw [frameHeader_eq]
      exact payloadLengthOf_commonHeader _ _ _ _ (by omega)
    refine ⟨hlength, isGood_sealed hlength hpayload, ?_, ?_, rfl, rfl, ?_, isFrameKind_frameKind f.body, rfl, rfl, rfl,
      fieldAt_of_leBytes rfl f.seq.isLt, rfl, fieldAt_of_leBytes rfl f.segSeq.isLt, sealed_payload hlength,
      fun first span level channels clip pairs payload hbody => dataFrame_fields hbody,
      fun first count cause held hbody hfirst hcount => ?_,
      fun start ending requested dataFrames gapFrames gapSamples levels absorbed hbody => trailerFrame_fields hbody⟩
    · rw [← Bool.not_eq_true, badLength_iff, hpayload]
      omega
    · rw [unitLengthOf, hpayload, sealUnit]
      simp [hlength]
      omega
    · rw [frameHeader_eq, deviceOf_commonHeader]
    · obtain ⟨hkind, hindex, hsamples, hcode, hflag⟩ := gapFrame_fields hbody hfirst hcount
      refine ⟨hkind, hindex, hsamples, hcode.trans ((gapCauseCode_eq cause).trans ?_), hflag⟩
      rcases cause with (- | - | - | -) | - <;> rfl

end Sys2Proof.Machine
end

section
/-! PROOFS. The DRAM port's completions: the block write, and a block read before the span's last (R23, R24, R27, R34, R107). -/

namespace Sys2Proof.Machine

/-! ### The port while frames start (R27, R93) -/

/-- A due frame leaves the port and the forced refreshes, or requests a block read and lets the port grant (R103, R107). -/
theorem takeDueFrame_grants (due : DueFrame) (s : State) :
    (takeDueFrame due s).memory.op = s.memory.op ∧
        (takeDueFrame due s).counters.forcedRefresh = s.counters.forcedRefresh ∨
    ∃ u : State, u.memory = { s.memory with readRequest := u.memory.readRequest } ∧
      u.counters.forcedRefresh = s.counters.forcedRefresh ∧ (takeDueFrame due s).memory.op = (grantPort u).memory.op ∧
      (takeDueFrame due s).counters.forcedRefresh = (grantPort u).counters.forcedRefresh := by
  cases due with
  | trailer g => exact .inl ⟨by simp [takeDueFrame], by simp [takeDueFrame]⟩
  | gap g e => exact .inl ⟨by simp [takeDueFrame], by simp [takeDueFrame]⟩
  | data g last =>
    refine .inr ⟨_, ?_, ?_, congrArg CaptureMemory.op (considerHead_memory _), considerHead_counters_forcedRefresh _⟩
    · rfl
    · rfl

/-- The port stands with an operation, and so many forced refreshes were counted. -/
def State.portStands (op : Option PortUse) (forced : Nat) (t : State) : Prop :=
  t.memory.op = op ∧ t.counters.forcedRefresh = forced

/-- Nothing that settles moves a busy port (R27). -/
theorem portStands_settling {op : Option PortUse} (hop : op ≠ none) (forced : Nat) :
    SettlingKeeps (State.portStands op forced) where
  memoryGap t h := ⟨by rw [placeMemoryGap_memory]; exact h.1, by rw [placeMemoryGap_counters]; exact h.2⟩
  due due t _ h := by
    rcases takeDueFrame_grants due t with ⟨hsame, hcount⟩ | ⟨u, hmemory, hforced, hsame, hcount⟩
    · exact ⟨hsame.trans h.1, hcount.trans h.2⟩
    · have hop' : u.memory.op = op := by rw [hmemory]; exact h.1
      have hbusy : grantPort u = u := grantPort_busy u fun hfree => hop (hop'.symm.trans hfree.2)
      rw [hbusy] at hsame hcount
      exact ⟨hsame.trans hop', hcount.trans (hforced.trans h.2)⟩
  flush t h := ⟨by rw [completeFlush_memory]; exact h.1, by rw [completeFlush_counters]; exact h.2⟩

/-- The port rests, or reads for a frame that just started: nothing is staged and owed is at its least (R27, R30). -/
structure State.portRests (forced : Nat) (t : State) : Prop where
  owed : t.memory.owed ≤ -8
  staging : t.memory.staging = []
  op : t.memory.op = none ∨ t.memory.op = some { op := .read }
  forced : t.counters.forcedRefresh = forced

theorem portRests_grantPort {forced : Nat} {u : State} (h : u.portRests forced) : (grantPort u).portRests forced := by
  by_cases hfree : u.memory.selfRefresh = false ∧ u.memory.op = none
  · have howed : u.memory.owed ≤ -8 := h.owed
    have hgrant := grantPort_free hfree.1 hfree.2
    rw [if_neg (by omega)] at hgrant
    rw [hgrant]
    refine ⟨h.owed, h.staging, ?_, h.forced⟩
    have hstaged : (!u.memory.staging.isEmpty) = false := by rw [h.staging]; rfl
    simp only [State.claim, firstClaim, hstaged]
    rw [if_neg (by omega), if_neg Bool.false_ne_true, if_neg (by omega : ¬0 < u.memory.owed),
      if_neg (by omega : ¬-8 < u.memory.owed)]
    cases u.memory.readRequest with
    | none => exact .inl rfl
    | some number => exact .inr rfl
  · rw [grantPort_busy u hfree]
    exact h

theorem portRests_settling (forced : Nat) : SettlingKeeps (State.portRests forced) where
  memoryGap t h := by
    refine ⟨?_, ?_, ?_, ?_⟩
    · rw [placeMemoryGap_memory]; exact h.owed
    · rw [placeMemoryGap_memory]; exact h.staging
    · rw [placeMemoryGap_memory]; exact h.op
    · rw [placeMemoryGap_counters]; exact h.forced
  due due t _ h := by
    have howed : (takeDueFrame due t).memory.owed ≤ -8 := by rw [takeDueFrame_memory_owed]; exact h.owed
    have hstaging : (takeDueFrame due t).memory.staging = [] := by rw [takeDueFrame_memory_staging]; exact h.staging
    rcases takeDueFrame_grants due t with ⟨hsame, hcount⟩ | ⟨u, hmemory, hforced, hsame, hcount⟩
    · exact ⟨howed, hstaging, hsame ▸ h.op, hcount.trans h.forced⟩
    · have hu : u.portRests forced := by
        refine ⟨?_, ?_, ?_, hforced.trans h.forced⟩ <;> rw [hmemory]
        · exact h.owed
        · exact h.staging
        · exact h.op
      have hgranted := portRests_grantPort hu
      exact ⟨howed, hstaging, hsame ▸ hgranted.op, hcount.trans hgranted.forced⟩
  flush t h := by
    refine ⟨?_, ?_, ?_, ?_⟩
    · rw [completeFlush_memory]; exact h.owed
    · rw [completeFlush_memory]; exact h.staging
    · rw [completeFlush_memory]; exact h.op
    · rw [completeFlush_counters]; exact h.forced

theorem settleFrom_flag {before s : State} {i : Nat} (h : s.faults.flags.getLsbD i = true) :
    (settleFrom before s).faults.flags.getLsbD i = true := by
  obtain ⟨w, -, hflags⟩ := (settleFrom_quiet before s).flags
  rw [hflags, BitVec.getLsbD_or, h, Bool.true_or]

/-! ### The block write (R23) -/

/-- A port that is freed grants the first claim, and counts and flags a forced refresh (R27, R30). -/
theorem portFreed_grants {u : State} (hconfig : u.station.config.isSome = true) (hself : u.memory.selfRefresh = false) :
    (portFreed u).memory.op = granted u.claim ∧
      (portFreed u).counters.forcedRefresh =
        (if u.claim = some (.refresh .forced) then min Config.counter32 (u.counters.forcedRefresh + 1)
         else u.counters.forcedRefresh) ∧
      (u.claim = some (.refresh .forced) → (portFreed u).faults.flags.getLsbD 7 = true) := by
  have hforced : u.claim = some (.refresh .forced) ↔ u.memory.owed = 8 := firstClaim_forced_iff _ _ _
  have hgrant := (portFreed_configured hconfig).trans (grantPort_free (s := { u with memory := { u.memory with op := none } }) hself rfl)
  refine ⟨congrArg CaptureMemory.op (portFreed_memory u hconfig hself), ?_, fun hclaim => ?_⟩
  · rw [hgrant]
    by_cases howed : u.memory.owed = 8
    · rw [if_pos howed, if_pos (hforced.2 howed)]
    · rw [if_neg howed, if_neg (mt hforced.1 howed)]
  · rw [hgrant, if_pos (hforced.1 hclaim)]
    simp [raise_flags, mask_getLsbD, -BitVec.getLsbD_eq_getElem, Flag.index]

theorem claim_none {s : State} (h : s.claim = none) : s.memory.owed ≤ -8 ∧ s.memory.staging = [] := by
  unfold State.claim firstClaim at h
  split at h
  · exact nomatch h
  split at h
  · exact nomatch h
  next hstaged =>
  split at h
  · exact nomatch h
  split at h
  · exact nomatch h
  split at h
  · exact nomatch h
  · exact ⟨by omega, by simpa using hstaged⟩

theorem completeWrite_current {s : State} (hop : s.memory.op = some { op := .write, stale := false })
    (hstaging : s.memory.staging ≠ []) : completeWrite s = portFreed (storeHead s) := by
  rw [completeWrite, if_neg (by simp [CaptureMemory.leftOver, hop]), if_pos ⟨by simp [CaptureMemory.current, hop], hstaging⟩]

/-- Settles O28. -/
theorem blockWriteStores : Obligations.BlockWriteStores := by
  intro b rest s hr hop hstaging
  obtain ⟨u, hu⟩ : ∃ u : State, u =
    { s with
      memory :=
        { s.memory with
          staging := rest
          dram := dramWrite s.memory.writeSlot { block := b } s.memory.dram
          storedCount := s.memory.storedCount + 1
          writeSlot := nextSlot s.capacity s.memory.writeSlot } } := ⟨_, rfl⟩
  have heffect : effect .blockWriteComplete s = portFreed u := by
    have hstore : storeHead s = u := by
      rw [storeHead, hstaging, hu]
    exact (completeWrite_current hop (by simp [hstaging])).trans (congrArg portFreed hstore)
  obtain ⟨t, ht⟩ : ∃ t, t = report s (settleFrom s (portFreed u)) := ⟨_, rfl⟩
  have hsettled : settled .blockWriteComplete s = settleFrom s (portFreed u) := by
    rw [← heffect]
    rfl
  have hkeeps : DrainKeeps (portFreed u) t := ht ▸ drained_keeps s (portFreed u)
  have hdram : t.memory.dram = dramWrite s.memory.writeSlot { block := b } s.memory.dram := by
    rw [hkeeps.dram, portFreed_memory_dram, hu]
  have hstagingAfter : t.memory.staging = rest := by rw [hkeeps.staging, portFreed_memory_staging, hu]
  have hstored : t.memory.storedCount = s.memory.storedCount + 1 := by rw [hkeeps.storedCount, portFreed_memory_storedCount, hu]
  refine ⟨t, by rw [ht, exec_free rfl hr, hsettled], hstagingAfter, hstored, ?_, ?_, ?_, ?_, ?_, fun slot hslot => ?_, ?_, ?_, ?_,
    fun hconfig hself claim hclaim => ?_, fun hfour => ?_, ?_⟩
  · rw [State.held, State.held, hstagingAfter, hstored, hstaging, List.length_cons]
    omega
  · rw [hkeeps.writeSlot, portFreed_memory_writeSlot, hu]
    rfl
  · rw [hkeeps.drainSlot, portFreed_memory_drainSlot, hu]
  · rw [hkeeps.owed, portFreed_memory_owed, hu]
  · rw [hdram, dramRead_dramWrite]
  · rw [hdram, dramRead_dramWrite_other _ _ _ _ hslot]
  · rw [hkeeps.transit, portFreed_spine, hu]
  · rw [hkeeps.hold, portFreed_spine, hu]
  · rw [hkeeps.refreshTimer, portFreed_memory_refreshTimer, hu]
  · have hclaim' : u.claim = claim := by
      rw [hclaim, State.claim, hu]
    obtain ⟨hop, hforced, hflag⟩ := portFreed_grants (u := u) (by rw [hu]; exact hconfig) (by rw [hu]; exact hself)
    rw [hclaim'] at hop hforced hflag
    have hcount : u.counters.forcedRefresh = s.counters.forcedRefresh := by rw [hu]
    rw [hcount] at hforced
    have hsettle {P : State → Prop} (k : SettlingKeeps P) (h : P (portFreed u)) : P (settleFrom s (portFreed u)) :=
      k.settleFrom s _ h
    cases hcase : claim with
    | some op =>
      rw [hcase] at hop hforced hflag
      obtain ⟨hop', hforced'⟩ := hsettle (portStands_settling (by rw [hop]; nofun) _) ⟨rfl, rfl⟩
      refine ⟨fun _ => ?_, nofun, ?_, fun h => ?_⟩
      · rw [ht, report_memory, hop', hop]
      · rw [ht, report_counters, hforced', hforced]
      · rw [ht]
        exact report_flag (by decide) (settleFrom_flag (hflag h))
    | none =>
      rw [hcase] at hop hforced
      obtain ⟨howed, hempty⟩ := claim_none (hclaim'.trans hcase)
      have hrests := hsettle (portRests_settling _)
        ⟨by rw [portFreed_memory_owed]; exact howed, by rw [portFreed_memory_staging]; exact hempty, .inl hop, hforced⟩
      refine ⟨fun h => absurd rfl h, fun _ => ?_, ?_, nofun⟩
      · rw [ht, report_memory]
        exact hrests.op
      · rw [ht, report_counters]
        exact hrests.forced
  · have hfull : settleFrom s (portFreed u) = portFreed u := settleFrom_full _ _ (by rw [portFreed_spine, hu]; exact hfour)
    rw [ht, hfull]
    refine sameBut_trans (sameBut_trans ?_ (sameBut_mono (portFreed_sameBut u) (by simp))) (sameBut_mono (report_sameBut _ _) (by simp))
    rw [hu]
    intro p hp; cases p <;> simp [Part.same] at hp ⊢
  · rw [ht, ← hsettled]
    exact report_drained_sameBut (sameBut_mono (effect_sameBut .blockWriteComplete s) (by simp [reach, drainParts])) (by simp)

/-! ### A block read before the span's last (R24, R34, R107) -/

theorem readsSlot_of_op {w : WorkingCopy} {number : Nat} {x : Slot} {s : State}
    (hop : s.memory.op = some { op := .read, stale := false }) (hphase : s.assembler.phase = .assembling w)
    (hrequest : s.memory.readRequest = some number) (hslot : dramRead (s.readSlot w number) s.memory.dram = some x) :
    ReadsSlot s w number x where
  reading := by simp [CaptureMemory.current, hop]
  assembling := hphase
  requested := hrequest
  stored := hslot

/-- Only the slot's errors change: every slot holds the block it held (R34). -/
theorem dramRead_block_of_found {slot : Nat} {x x' : Slot} {dram : List (Nat × Slot)} (hx : dramRead slot dram = some x)
    (hblock : x'.block = x.block) (other : Nat) :
    (dramRead other (dramWrite slot x' dram)).map Slot.block = (dramRead other dram).map Slot.block := by
  by_cases hother : other = slot
  · rw [hother, dramRead_dramWrite, hx, Option.map_some, Option.map_some, hblock]
  · rw [dramRead_dramWrite_other _ _ _ _ hother]

theorem countRead_correctable {slot : Nat} {x : Slot} (s : State) (h : x.uncorrectable = false) :
    countRead slot x s =
      { s with
        memory := { s.memory with dram := dramWrite slot x s.memory.dram, readRequest := none }
        counters :=
          { s.counters with
            corrected := min Config.counter32 (s.counters.corrected + x.corrected)
            uncorrectable := min Config.counter32 (s.counters.uncorrectable + 0) } } := by
  simp only [countRead, h]
  rfl

/-- What the assembler takes of a channel, as R107 has it. -/
theorem gatherChannel_eq {w : WorkingCopy} {b : Block} {lo hi size : Nat} {clip content : List Sample → List Sample}
    (hlo : lo = max w.first (512 * b.number)) (hhi : hi = min w.last (512 * b.number + b.fill - 1))
    (hsize : size = 2 ^ (w.level.val + 1))
    (hclip : ∀ channel, clip channel = (channel.drop (lo - 512 * b.number)).take (hi + 1 - lo))
    (hcontent : ∀ channel,
      content channel =
        if w.level.val = 0 then clip channel else reduceSamples size (size - lo % size) none (clip channel)) :
    gatherChannel w b = content := by
  funext channel
  rw [hcontent, hclip, hsize, hlo, hhi]
  rfl

theorem takeBlock_next {w : WorkingCopy} {b : Block} (s : State) (h : w.next < w.last / 512) :
    takeBlock w b s =
      { s with
        memory := { s.memory with readRequest := some (w.next + 1) }
        assembler := { s.assembler with phase := .assembling { gatherBlock w b with next := w.next + 1 } } } := if_pos h

/-- Settles O29. -/
theorem blockReadGathers : Obligations.BlockReadGathers := by
  intro w number corrected lo hi size x clip content s hr hf hop hphase hrequest hslot hgood hnext hcount hlo hhi hsize hclip hcontent
  have hfound : (x.found corrected false).uncorrectable = false := by simp [Slot.found, hgood]
  obtain ⟨u, hu⟩ : ∃ u : State, u =
    { s with
      memory :=
        { s.memory with
          dram := dramWrite (s.readSlot w number) (x.found corrected false) s.memory.dram
          readRequest := some (w.next + 1) }
      assembler :=
        { s.assembler with
          phase :=
            .assembling
              { w with
                gathered := List.zipWith (fun old channel => old ++ content channel) w.gathered x.block.samples
                next := w.next + 1 } }
      counters :=
        { s.counters with
          corrected := min Config.counter32 (s.counters.corrected + (x.corrected + corrected))
          uncorrectable := min Config.counter32 (s.counters.uncorrectable + 0) } } := ⟨_, rfl⟩
  have hafter : afterRead w (s.readSlot w number) (x.found corrected false) s = u := by
    rw [afterRead, hfound, if_neg Bool.false_ne_true, countRead_correctable s hfound, takeBlock_next _ hnext, hu, gatherBlock]
    simp only [gatherChannel_eq (b := x.block) hlo hhi hsize hclip hcontent, Slot.found]
  have heffect : effect (.blockReadComplete corrected false) s = portFreed u := by
    rw [← hafter]
    exact completeRead_taken (readsSlot_of_op hop hphase hrequest hslot) corrected false
  have hsettled : settled (.blockReadComplete corrected false) s = portFreed u := by
    have hdrains : settled (.blockReadComplete corrected false) s =
      settleFrom s (effect (.blockReadComplete corrected false) s) := rfl
    rw [hdrains, heffect]
    exact settleFrom_assembling ((congrArg Assembler.phase (portFreed_assembler u)).trans (by rw [hu]))
  have hquiet : Quiet s (effect (.blockReadComplete corrected false) s) := by
    rw [heffect]
    exact (portFreed_quiet u).after (by rw [hu]; rfl) (by rw [hu])
  refine ⟨portFreed u, by rw [exec_of_quiet rfl hr hf hquiet, hsettled], ?_, fun hconfig hself => ?_, ?_, ?_, fun slot => ?_, ?_, ?_, ?_, ?_, ?_, ?_, ?_⟩
  · rw [portFreed_assembler, hu]
  · rw [portFreed_memory u (by rw [hu]; exact hconfig) (by rw [hu]; exact hself), hu]
    rfl
  · rw [portFreed_memory_owed, hu]
  · rw [portFreed_memory_readRequest, hu]
  · rw [portFreed_memory_dram, hu]
    exact dramRead_block_of_found (x' := x.found corrected false) hslot rfl slot
  · rw [portFreed_memory_storedCount, hu]
  · rw [portFreed_memory_drainSlot, hu]
  · rw [portFreed_memory_writeSlot, hu]
  · rw [portFreed_memory_staging, hu]
  · rw [portFreed_counters_corrected, hu]
  · rw [portFreed_counters_uncorrectable, hu]
    exact Nat.min_eq_right hcount
  · refine sameBut_trans ?_ (sameBut_mono (portFreed_sameBut u) (by simp))
    rw [hu]
    intro p hp; cases p <;> simp [Part.same] at hp ⊢

end Sys2Proof.Machine
end

section
/-! PROOFS. The end of a DATA frame: its last read, the payload and the release of its blocks, and its truncation at an
uncorrectable read (R25, R34, R92, R103 to R112, R184). -/

namespace Sys2Proof.Machine

/-! ### The payload (R102, R106, R184) -/

theorem flatMap_flatten_words {β : Type} (f : Sample → List β) (gathered : List (List Sample)) :
    (gathered.flatMap fun channel => channel.flatMap f) = gathered.flatten.flatMap f := by
  induction gathered with
  | nil => rfl
  | cons channel rest ih => rw [List.flatMap_cons, ih, List.flatten_cons, List.flatMap_append]

theorem wordBytes_length (words : List Sample) : (words.flatMap fun x => leBytes 2 x.toNat).length = 2 * words.length := by
  induction words with
  | nil => rfl
  | cons x rest ih =>
    rw [List.flatMap_cons, List.length_append, ih, leBytes_length, List.length_cons]
    omega

/-- The payload's words little-endian, with two zero bytes after an odd number of them. -/
theorem payloadOf_eq {gathered : List (List Sample)} {words : List Sample} (hwords : words = gathered.flatten) :
    payloadOf gathered =
      (words.flatMap fun word => [BitVec.ofNat 8 word.toNat, BitVec.ofNat 8 (word.toNat / 256)]) ++
        if words.length % 2 = 0 then [] else [0x00, 0x00] := by
  have hbytes : (gathered.flatMap fun channel => channel.flatMap fun x => leBytes 2 x.toNat) =
      words.flatMap fun x => leBytes 2 x.toNat := by rw [flatMap_flatten_words, hwords]
  rw [payloadOf, hbytes, padded, wordBytes_length]
  refine congrArg₂ (· ++ ·) rfl ?_
  split
  · next heven =>
    have hnone : (4 - 2 * words.length % 4) % 4 = 0 := by omega
    rw [hnone]
    rfl
  · next hodd =>
    have htwo : (4 - 2 * words.length % 4) % 4 = 2 := by omega
    rw [htwo]
    rfl

/-! ### The release of blocks (R25, R109) -/

/-- The ring after the release of `n` blocks. -/
def released (n : Nat) (s : State) : State :=
  { s with
    memory :=
      { s.memory with
        storedCount := s.memory.storedCount - n
        drainSlot := (s.memory.drainSlot + n) % s.capacity } }

theorem nextSlot_eq {capacity slot : Nat} (h : slot < capacity) : nextSlot capacity slot = (slot + 1) % capacity := by
  unfold nextSlot
  split
  · next hlt => rw [Nat.mod_eq_of_lt hlt]
  · have hwrap : slot + 1 = capacity := by omega
    rw [hwrap, Nat.mod_self]

theorem releaseBlock_eq {s : State} (h : s.memory.drainSlot < s.capacity) : releaseBlock s = released 1 s := by
  rw [releaseBlock, nextSlot_eq h]
  rfl

theorem released_zero {s : State} (h : s.memory.drainSlot < s.capacity) : released 0 s = s := by
  have hslot : (s.memory.drainSlot + 0) % s.capacity = s.memory.drainSlot := Nat.mod_eq_of_lt h
  rw [released, hslot]
  rfl

theorem released_released (m n : Nat) (s : State) : released n (released m s) = released (m + n) s := by
  have hslot : ((s.memory.drainSlot + m) % s.capacity + n) % s.capacity = (s.memory.drainSlot + (m + n)) % s.capacity := by
    rw [Nat.mod_add_mod, Nat.add_assoc]
  simp only [released, State.capacity] at hslot ⊢
  rw [hslot, Nat.sub_sub]

/-- The block that stands `i` slots after the drain slot. -/
def State.blockAt (s : State) (i : Nat) : Option Block :=
  (dramRead ((s.memory.drainSlot + i) % s.capacity) s.memory.dram).map Slot.block

theorem drainBlock_eq {s : State} (hslot : s.memory.drainSlot < s.capacity) (hstored : 0 < s.memory.storedCount) :
    s.drainBlock = s.blockAt 0 := by
  rw [State.drainBlock, if_neg (by omega), State.blockAt, Nat.add_zero, Nat.mod_eq_of_lt hslot]

theorem blockAt_released (s : State) (n i : Nat) : (released n s).blockAt i = s.blockAt (n + i) := by
  have hslot : ((s.memory.drainSlot + n) % s.capacity + i) % s.capacity = (s.memory.drainSlot + (n + i)) % s.capacity := by
    rw [Nat.mod_add_mod, Nat.add_assoc]
  simp only [State.blockAt, released, State.capacity] at hslot ⊢
  rw [hslot]

theorem released_drainSlot_lt {s : State} (h : s.memory.drainSlot < s.capacity) (n : Nat) :
    (released n s).memory.drainSlot < (released n s).capacity := by
  have hpos : 0 < s.capacity := by omega
  exact Nat.mod_lt _ hpos

/-- Blocks whose last sample the span covers are released one after the other (R109). -/
theorem releaseThrough_covered {last : Nat} (n m : Nat) {s : State} (hslot : s.memory.drainSlot < s.capacity)
    (hstored : n ≤ s.memory.storedCount) (hblocks : ∀ i < n, ∃ b, s.blockAt i = some b ∧ b.lastSample ≤ last) :
    releaseThrough last (n + m) s = releaseThrough last m (released n s) := by
  induction n generalizing s with
  | zero => rw [Nat.zero_add, released_zero hslot]
  | succ n ih =>
    obtain ⟨b, hb, hcovered⟩ := hblocks 0 (Nat.succ_pos n)
    have hdrain : s.drainBlock = some b := by rw [drainBlock_eq hslot (by omega), hb]
    have hstep : releaseThrough last (n + 1 + m) s = releaseThrough last (n + m) (released 1 s) := by
      rw [Nat.add_right_comm, releaseThrough, hdrain]
      simp only
      rw [if_pos hcovered, releaseBlock_eq hslot]
    rw [hstep, ih (released_drainSlot_lt hslot 1) (by simp only [released]; omega), released_released, Nat.add_comm 1 n]
    intro i hi
    rw [blockAt_released, Nat.add_comm 1 i]
    exact hblocks (i + 1) (by omega)

/-- The span's blocks are released, the last one too where the span reaches its end (R109). -/
theorem releaseThrough_span {last k : Nat} {b : Block} {s : State} (hslot : s.memory.drainSlot < s.capacity)
    (hstored : k < s.memory.storedCount) (hblocks : ∀ i < k, ∃ b, s.blockAt i = some b ∧ b.lastSample ≤ last)
    (hlast : s.blockAt k = some b) :
    releaseThrough last (k + 1) s = released (if b.lastSample ≤ last then k + 1 else k) s := by
  have hslot' := released_drainSlot_lt hslot k
  have hdrain : (released k s).drainBlock = some b := by
    rw [drainBlock_eq hslot' (by simp only [released]; omega), blockAt_released, Nat.add_zero, hlast]
  rw [releaseThrough_covered k 1 hslot (Nat.le_of_lt hstored) hblocks, releaseThrough, hdrain]
  simp only [releaseThrough]
  split
  · rw [releaseBlock_eq hslot', released_released]
  · rfl

/-! ### The frame's completion (R92, R108 to R110) -/

theorem completeData_frames (w : WorkingCopy) (s : State) :
    (completeData w s).spine.frames =
      s.spine.frames ++
        [{ origin := s.unitOrigin, seq := s.assembler.frameSeq, segOrigin := w.origin, segSeq := w.seq,
           body := dataBody s.channels w }] := by
  rw [completeData, onHeadSegment_spine, releaseThrough_spine, placeFrame_frames]

theorem completeData_assembler (w : WorkingCopy) (s : State) :
    (completeData w s).assembler =
      { s.assembler with frameSeq := s.assembler.frameSeq + 1, flushTimer := .running } := by
  rw [completeData, onHeadSegment_assembler, releaseThrough_assembler, placeFrame, joinFrame_assembler]

theorem completeData_live (w : WorkingCopy) (s : State) :
    (completeData w s).table.live = mapHead (Segment.countData w.level) s.table.live := by
  rw [completeData, onHeadSegment_live, releaseThrough_table, placeFrame_table]

theorem completeData_memory (w : WorkingCopy) (s : State) :
    (completeData w s).memory =
      (releaseThrough w.last (w.last / 512 - w.first / 512 + 1) (placeFrame w.origin w.seq (dataBody s.channels w) s)).memory :=
  onHeadSegment_memory ..

/-- The frames of a state that has as much of the ring release the same blocks. -/
theorem blockAt_congr {s t : State} (hdrain : t.memory.drainSlot = s.memory.drainSlot) (hstation : t.station = s.station)
    (hdram : ∀ slot, (dramRead slot t.memory.dram).map Slot.block = (dramRead slot s.memory.dram).map Slot.block) (i : Nat) :
    t.blockAt i = s.blockAt i := by
  have hcapacity : t.capacity = s.capacity := by rw [State.capacity, State.capacity, hstation]
  rw [State.blockAt, hdram, hdrain, hcapacity, State.blockAt]

theorem takeBlock_last {w : WorkingCopy} {b : Block} (s : State) (h : w.last / 512 ≤ w.next) :
    takeBlock w b s = completeData (gatherBlock w b) { s with assembler := { s.assembler with phase := .idle } } :=
  if_neg (Nat.not_lt.2 h)

theorem dataBody_eq (channels : Nat) (w : WorkingCopy) :
    dataBody channels w =
      .data w.first (w.last + 1 - w.first) w.level channels (if w.level.val = 0 then 0 else w.first % 2 ^ (w.level.val + 1))
        (if w.level.val = 0 then 0
         else w.last / 2 ^ (w.level.val + 1) - w.first / 2 ^ (w.level.val + 1) + 1) (payloadOf w.gathered) := rfl

/-- Settles O30. -/
theorem dataFrameCompletes : Obligations.DataFrameCompletes := by
  intro w number corrected lo hi size x clip content words s hr hop hphase hrequest hslot hgood hlastRead hlo hhi hsize hclip hcontent
    hwords
  have hfound : (x.found corrected false).uncorrectable = false := by simp [Slot.found, hgood]
  have hgather : gatherBlock w x.block =
      { w with gathered := List.zipWith (fun old channel => old ++ content channel) w.gathered x.block.samples } := by
    rw [gatherBlock, gatherChannel_eq (b := x.block) hlo hhi hsize hclip hcontent]
  obtain ⟨w', hw'⟩ : ∃ w', w' = gatherBlock w x.block := ⟨_, rfl⟩
  obtain ⟨u, hu⟩ : ∃ u : State, u =
    { s with
      memory := { s.memory with dram := dramWrite (s.readSlot w number) (x.found corrected false) s.memory.dram, readRequest := none }
      assembler := { s.assembler with phase := .idle }
      counters :=
        { s.counters with
          corrected := min Config.counter32 (s.counters.corrected + (x.corrected + corrected))
          uncorrectable := min Config.counter32 (s.counters.uncorrectable + 0) } } := ⟨_, rfl⟩
  obtain ⟨y, hy⟩ : ∃ y, y = completeData w' u := ⟨_, rfl⟩
  have hafter : afterRead w (s.readSlot w number) (x.found corrected false) s = y := by
    rw [afterRead, hfound, if_neg Bool.false_ne_true, countRead_correctable s hfound, takeBlock_last _ hlastRead, hy, hw', hu]
    rfl
  have heffect : effect (.blockReadComplete corrected false) s = portFreed y := by
    rw [← hafter]
    exact completeRead_taken (readsSlot_of_op hop hphase hrequest hslot) corrected false
  have hsettled : settled (.blockReadComplete corrected false) s = settleFrom s (portFreed y) := by
    rw [← heffect]
    rfl
  obtain ⟨t, ht⟩ : ∃ t, t = report s (settleFrom s (portFreed y)) := ⟨_, rfl⟩
  have hkeeps : DrainKeeps (portFreed y) t := ht ▸ drained_keeps s (portFreed y)
  have hchannels : u.channels = s.channels := by rw [hu]; rfl
  have horigin : u.unitOrigin = s.unitOrigin := by rw [hu]; rfl
  have hdram (slot : Nat) : (dramRead slot u.memory.dram).map Slot.block = (dramRead slot s.memory.dram).map Slot.block := by
    rw [hu]
    exact dramRead_block_of_found (x' := x.found corrected false) hslot rfl slot
  have hframes : (portFreed y).spine.frames = s.spine.frames ++
      [{ origin := s.unitOrigin, seq := s.assembler.frameSeq, segOrigin := w.origin, segSeq := w.seq,
         body := dataBody s.channels w' }] := by
    rw [portFreed_spine, hy, completeData_frames, hchannels, horigin, hu, hw', hgather]
  have hbody : dataBody s.channels w' = .data w.first (w.last + 1 - w.first) w.level s.channels
      (if w.level.val = 0 then 0 else w.first % 2 ^ (w.level.val + 1))
      (if w.level.val = 0 then 0 else w.last / 2 ^ (w.level.val + 1) - w.first / 2 ^ (w.level.val + 1) + 1)
      ((words.flatMap fun word => [BitVec.ofNat 8 word.toNat, BitVec.ofNat 8 (word.toNat / 256)]) ++
        if words.length % 2 = 0 then [] else [0x00, 0x00]) := by
    rw [dataBody_eq, hw', hgather, payloadOf_eq hwords]
  refine ⟨t, _, by rw [ht, exec_free rfl hr, hsettled], by rw [← hbody, ← hframes]; exact hkeeps.frames, rfl,
    fun k n z hk hblocks hz hnumber hstored hdrainSlot hn => ?_, ?_, ?_, ?_, fun slot => ?_, fun hthree => ?_, ?_⟩
  · obtain ⟨v, hv⟩ : ∃ v, v = placeFrame w'.origin w'.seq (dataBody u.channels w') u := ⟨_, rfl⟩
    have hvmemory : v.memory = u.memory := by rw [hv, placeFrame_memory]
    have hvstation : v.station = s.station := by rw [hv, placeFrame_station, hu]
    have hvcapacity : v.capacity = s.capacity := by rw [State.capacity, State.capacity, hvstation]
    have hvslot : v.memory.drainSlot = s.memory.drainSlot := by rw [hvmemory, hu]
    have hvstored : v.memory.storedCount = s.memory.storedCount := by rw [hvmemory, hu]
    have hat (i : Nat) : v.blockAt i = s.blockAt i := blockAt_congr hvslot hvstation (hvmemory ▸ hdram) i
    have hspan : w'.last / 512 - w'.first / 512 + 1 = k + 1 := by rw [hk, hw', hgather]
    have hend : w'.last = w.last := by rw [hw', hgather]
    have hcovered (i : Nat) (hi : i < k) : ∃ b, v.blockAt i = some b ∧ b.lastSample ≤ w.last := by
      obtain ⟨z', hz', hnum, hfill⟩ := hblocks i hi
      refine ⟨z'.block, by rw [hat, State.blockAt, hz', Option.map_some], ?_⟩
      have hlastSample : z'.block.lastSample = 512 * (w.first / 512 + i) + 512 - 1 := by rw [Block.lastSample, hnum, hfill]
      rw [hlastSample]
      omega
    have hlast : v.blockAt k = some z.block := by rw [hat, State.blockAt, hz, Option.map_some]
    have hreleased := releaseThrough_span (last := w.last) (by rw [hvslot, hvcapacity]; exact hdrainSlot) (by rw [hvstored]; exact hstored) hcovered hlast
    have hn' : (if z.block.lastSample ≤ w.last then k + 1 else k) = n := hn.symm
    rw [hn'] at hreleased
    have hmemory : (portFreed y).memory.storedCount = s.memory.storedCount - n ∧
        (portFreed y).memory.drainSlot = (s.memory.drainSlot + n) % s.capacity := by
      rw [portFreed_memory_storedCount, portFreed_memory_drainSlot, hy, completeData_memory, hspan, ← hv, hend, hreleased]
      exact ⟨by rw [← hvstored]; rfl, by rw [← hvslot, ← hvcapacity]; rfl⟩
    have hstagingAfter : t.memory.staging = s.memory.staging := by
      rw [hkeeps.staging, portFreed_memory_staging, hy, completeData_memory_staging, hu]
    have hle : n ≤ k + 1 := by
      rw [hn]
      split <;> omega
    refine ⟨hkeeps.storedCount.trans hmemory.1, ?_, hkeeps.drainSlot.trans hmemory.2⟩
    rw [State.held, State.held, hstagingAfter, hkeeps.storedCount, hmemory.1]
    omega
  · rw [hkeeps.storedCount, portFreed_memory_storedCount, hy, completeData_memory]
    refine (releaseThrough_storedCount _ _ _).trans (Nat.le_of_eq ?_)
    rw [placeFrame_memory, hu]
  · rw [hkeeps.staging, portFreed_memory_staging, hy, completeData_memory_staging, hu]
  · rw [hkeeps.writeSlot, portFreed_memory_writeSlot, hy, completeData_memory_writeSlot, hu]
  · rw [hkeeps.dram, portFreed_memory_dram, hy, completeData_memory_dram, hdram]
  · have hfull : settleFrom s (portFreed y) = portFreed y := by
      refine settleFrom_full _ _ ?_
      rw [hframes, List.length_append, List.length_singleton, hthree]
    rw [ht, hfull]
    have hlevel : w'.level = w.level := by rw [hw', hgather]
    refine ⟨by rw [report_spine, hframes, hbody], ?_, ?_, ?_, ?_, ?_, ?_, ?_⟩
    · rw [report_assembler, portFreed_assembler, hy, completeData_assembler, hu]
    · rw [report_assembler, portFreed_assembler, hy, completeData_assembler, hu]
    · rw [report_assembler, portFreed_assembler, hy, completeData_assembler]
    · rw [report_assembler, portFreed_assembler, hy, completeData_assembler, hu]
    · rw [report_table, portFreed_table, hy, completeData_table_queue, hu]
    · rw [report_table, portFreed_table, hy, completeData_live, hlevel, hu]
    · rw [report_gaps, portFreed_gaps, hy, completeData_gaps, hu]
  · rw [ht, ← hsettled]
    exact report_drained_sameBut
      (sameBut_mono (effect_sameBut (.blockReadComplete corrected false) s) (by simp [reach, drainParts])) (by simp)

/-! ### Truncation (R34, R111, R112) -/

theorem Quiet.flag {s t : State} (h : Quiet s t) {i : Nat} (hi : s.faults.flags.getLsbD i = true) :
    t.faults.flags.getLsbD i = true := by
  obtain ⟨w, -, hflags⟩ := h.flags
  rw [hflags, BitVec.getLsbD_or, hi, Bool.true_or]

theorem countRead_uncorrectable {slot : Nat} {x : Slot} (s : State) (h : x.uncorrectable = true) :
    countRead slot x s =
      { s with
        memory := { s.memory with dram := dramWrite slot x s.memory.dram, readRequest := none }
        counters :=
          { s.counters with
            corrected := min Config.counter32 (s.counters.corrected + x.corrected)
            uncorrectable := min Config.counter32 (s.counters.uncorrectable + 1) }
        faults := s.faults.raise (Flag.mask .memoryError true) } := by
  simp only [countRead, h]
  rfl

/-- The truncation before its block is released and the gap stands: the frame of the samples gathered, where there are some
(R111). -/
def cutFrame (w : WorkingCopy) (u : Nat) (s : State) : State :=
  if w.first < u then completeData { w with last := u - 1 } s else s

/-- The truncation before the Segment Table considers its head request (R111, R112). -/
def gapPending (w : WorkingCopy) (b : Block) (u v : Nat) (s : State) : State :=
  { (if v = b.lastSample then releaseBlock s else s) with
    assembler :=
      { s.assembler with
        drain := v + 1
        phase := .pending { first := u, count := v - u + 1, origin := w.origin, seq := w.seq } } }

theorem truncateFrame_eq {w : WorkingCopy} {b : Block} {u v : Nat} (hu : u = max w.first (512 * b.number))
    (hv : v = min w.last b.lastSample) (s : State) :
    truncateFrame w b s = considerHead (gapPending w b u v (cutFrame w u s)) := by
  rw [truncateFrame, gapPending, cutFrame, hu, hv]
  simp only
  split <;> split <;> rfl

section GapPending

variable (w : WorkingCopy) (b : Block) (u v : Nat) (s : State)

theorem gapPending_phase :
    (gapPending w b u v s).assembler.phase = .pending { first := u, count := v - u + 1, origin := w.origin, seq := w.seq } := rfl

theorem gapPending_frameSeq : (gapPending w b u v s).assembler.frameSeq = s.assembler.frameSeq := rfl

/-- Of the memory the release reaches the stored count and the drain slot (R25). -/
theorem gapPending_memory :
    (gapPending w b u v s).memory = if v = b.lastSample then (releaseBlock s).memory else s.memory := by
  unfold gapPending
  split <;> rfl

theorem gapPending_spine : (gapPending w b u v s).spine = s.spine := by
  unfold gapPending
  split <;> rfl

theorem gapPending_table : (gapPending w b u v s).table = s.table := by
  unfold gapPending
  split <;> rfl

theorem gapPending_station : (gapPending w b u v s).station = s.station := by
  unfold gapPending
  split <;> rfl

theorem gapPending_faults : (gapPending w b u v s).faults = s.faults := by
  unfold gapPending
  split <;> rfl

theorem gapPending_counters : (gapPending w b u v s).counters = s.counters := by
  unfold gapPending
  split <;> rfl

theorem cutFrame_faults : (cutFrame w u s).faults = s.faults := by
  unfold cutFrame
  split
  · exact completeData_faults ..
  · rfl

theorem cutFrame_counters : (cutFrame w u s).counters = s.counters := by
  unfold cutFrame
  split
  · exact completeData_counters ..
  · rfl

end GapPending

/-- A MEMORY gap that comes to wait is placed at the same event where a frame slot is free (R112). -/
theorem settleFrom_places_memoryGap {s y : State} {m : MemoryGap} {w : WorkingCopy} (hbefore : s.assembler.phase = .assembling w)
    (hphase : y.assembler.phase = .pending m) (hroom : y.spine.frames.length < 4) :
    (y.spine.frames ++
      [{ origin := y.unitOrigin, seq := y.assembler.frameSeq, segOrigin := m.origin, segSeq := m.seq,
         body := .gap m.first m.count .memory false }]) <+: (settleFrom s y).spine.frames := by
  have hview : s.drainView ≠ y.drainView := by
    intro h
    have hpending := congrArg DrainView.pending h
    simp [State.drainView, hbefore, hphase] at hpending
  have hplaced : (placeMemoryGap y).spine.frames = y.spine.frames ++
      [{ origin := y.unitOrigin, seq := y.assembler.frameSeq, segOrigin := m.origin, segSeq := m.seq,
         body := .gap m.first m.count .memory false }] := by
    rw [placeMemoryGap_of_pending hphase, if_pos hroom]
    simp
  rw [settleFrom, if_neg hview, settle, completeFlush_spine, ← hplaced]
  exact considerFrames_prefix _ _

/-- Settles O31. -/
theorem readErrorTruncates : Obligations.ReadErrorTruncates := by
  intro w number corrected u v x s hr hop hphase hrequest hslot hu hv
  have hfound : (x.found corrected true).uncorrectable = true := by simp [Slot.found]
  obtain ⟨c, hc⟩ : ∃ c, c = countRead (s.readSlot w number) (x.found corrected true) s := ⟨_, rfl⟩
  have hcount := hc.trans (countRead_uncorrectable s hfound)
  obtain ⟨y, hy⟩ : ∃ y, y = gapPending w x.block u v (cutFrame w u c) := ⟨_, rfl⟩
  have hafter : afterRead w (s.readSlot w number) (x.found corrected true) s = considerHead y := by
    rw [afterRead, hfound, if_pos rfl, ← hc, hy]
    exact truncateFrame_eq (b := x.block) hu hv c
  obtain ⟨z, hz⟩ : ∃ z, z = portFreed (considerHead y) := ⟨_, rfl⟩
  have heffect : effect (.blockReadComplete corrected true) s = z := by
    rw [hz, ← hafter]
    exact completeRead_taken (readsSlot_of_op hop hphase hrequest hslot) corrected true
  have hsettled : settled (.blockReadComplete corrected true) s = settleFrom s z := by
    rw [← heffect]
    rfl
  obtain ⟨t, ht⟩ : ∃ t, t = report s (settleFrom s z) := ⟨_, rfl⟩
  have hkeeps : DrainKeeps z t := ht ▸ drained_keeps s z
  have hquiet : Quiet y z := hz ▸ (considerHead_quiet y).trans (portFreed_quiet _)
  have hspine : z.spine = (cutFrame w u c).spine := by
    rw [hz, portFreed_spine, considerHead_spine, hy, gapPending_spine]
  have hassembler : z.assembler = y.assembler := by rw [hz, portFreed_assembler, considerHead_assembler]
  have hzphase : z.assembler.phase = .pending { first := u, count := v - u + 1, origin := w.origin, seq := w.seq } := by
    rw [hassembler, hy, gapPending_phase]
  have horigin : c.unitOrigin = s.unitOrigin := by rw [hcount]; rfl
  have hchannels : c.channels = s.channels := by rw [hcount]; rfl
  have hstored : z.memory.storedCount = y.memory.storedCount := by
    rw [hz, portFreed_memory_storedCount, considerHead_memory]
  have hdrainSlot : z.memory.drainSlot = y.memory.drainSlot := by
    rw [hz, portFreed_memory_drainSlot, considerHead_memory]
  have huncut (hfirst : u = w.first) : cutFrame w u c = c := if_neg (by omega)
  refine ⟨t, by rw [ht, exec_free rfl hr, hsettled], ?_, ?_, fun hlt hthree hqueue => ?_, fun hfirst hroom => ?_,
    fun hfirst hend => ?_, fun hfirst hinside => ?_, ?_⟩
  · have hflag : y.faults.flags.getLsbD 11 = true := by
      rw [hy, gapPending_faults, cutFrame_faults, hcount]
      simp [raise_flags, mask_getLsbD, -BitVec.getLsbD_eq_getElem, Flag.index]
    rw [ht]
    exact report_flag (by decide) (settleFrom_flag (hquiet.flag hflag))
  · rw [ht, report_counters, settleFrom_counters_uncorrectable, hz, portFreed_counters_uncorrectable,
      considerHead_counters_uncorrectable, hy, gapPending_counters, cutFrame_counters, hcount]
  · have hcut : cutFrame w u c = completeData { w with last := u - 1 } c := if_pos hlt
    have hframes : z.spine.frames = s.spine.frames ++
        [{ origin := s.unitOrigin, seq := s.assembler.frameSeq, segOrigin := w.origin, segSeq := w.seq,
           body := dataBody s.channels { w with last := u - 1 } }] := by
      rw [hspine, hcut, completeData_frames, horigin, hchannels, hcount]
    have hfull : settleFrom s z = z := by
      refine settleFrom_full _ _ ?_
      rw [hframes, List.length_append, List.length_singleton, hthree]
    have hunasked : considerHead y = y := by
      refine considerHead_empty _ ?_
      rw [hy, gapPending_table, hcut, completeData_table_queue, hcount]
      exact hqueue
    rw [ht, hfull]
    refine ⟨by rw [report_spine, hframes], by rw [report_assembler, hzphase], ?_, ?_⟩
    · rw [report_assembler, hassembler, hy]
      rfl
    · rw [report_table, hz, portFreed_table, hunasked, hy, gapPending_table, hcut, completeData_live, hcount]
  · have hzframes : z.spine.frames = s.spine.frames := by rw [hspine, huncut hfirst, hcount]
    have hzorigin : z.unitOrigin = s.unitOrigin := by
      have hzstation : z.station = s.station := by
        rw [hz, portFreed_station, considerHead_station, hy, gapPending_station, huncut hfirst, hcount]
      have hzspine : z.spine = s.spine := by rw [hspine, huncut hfirst, hcount]
      simp only [State.unitOrigin, State.rateClass, State.runTag, hzstation, hzspine]
    have hzseq : z.assembler.frameSeq = s.assembler.frameSeq := by
      rw [hassembler, hy, gapPending_frameSeq, huncut hfirst, hcount]
    have hplaced := settleFrom_places_memoryGap hphase hzphase (by rw [hzframes]; exact hroom)
    rw [hzframes, hzorigin, hzseq] at hplaced
    rw [ht, report_spine]
    exact hplaced
  · rw [hkeeps.storedCount, hkeeps.drainSlot, hstored, hdrainSlot, hy, gapPending_memory, if_pos hend, huncut hfirst, hcount]
    exact ⟨rfl, rfl⟩
  · rw [hkeeps.storedCount, hkeeps.drainSlot, hstored, hdrainSlot, hy, gapPending_memory, if_neg hinside, huncut hfirst, hcount]
    exact ⟨rfl, rfl⟩
  · rw [ht, ← hsettled]
    exact report_drained_sameBut
      (sameBut_mono (effect_sameBut (.blockReadComplete corrected true) s) (by simp [reach, drainParts])) (by simp)

end Sys2Proof.Machine
end

section
/-! PROOFS. The intake and the boundaries in RUN: a sample set within a block, the decision of a complete block, and an accepted
marker (R1, R3, R6, R9 to R13, R27, R57, R63, R64, R69, R71 to R73). -/

namespace Sys2Proof.Machine

/-! ### One request that cuts the OPEN segment (R72, R73) -/

theorem snoc_of_getLast? {α : Type} {l : List α} {x : α} (h : l.getLast? = some x) : l = l.dropLast ++ [x] :=
  (List.dropLast_append_getLast? x h).symm

/-- In RUN a request alone in the queue, with its index inside the last segment and above the drain point, cuts the segment
there (R73). -/
theorem considerHead_cuts {r : Request} {g : Segment} {s : State} (hqueue : s.table.queue = [r])
    (hlive : s.table.live.getLast? = some g) (hrun : s.station.phase = .run) (hroom : s.table.live.length < 63)
    (hstart : g.start < r.index) (hdrain : s.assembler.drain ≤ r.index) (htaken : r.index < s.intake.point) :
    considerHead s =
      { s with
        table :=
          { s.table with
            queue := []
            live :=
              s.table.live.dropLast ++
                [{ g with ending := some (r.index - 1) },
                  { origin := r.origin, seq := r.seq, cause := .boundary r.cause, start := r.index, ending := none,
                    requested := none }] } } := by
  have hsnoc := snoc_of_getLast? hlive
  have hlimit : s.limit = s.intake.point := if_pos hrun
  have hindex : max r.index (max g.start s.assembler.drain) = r.index := by omega
  have hjudge := judgeRequest_snoc hsnoc r
  rw [hindex, if_neg (by omega), hlimit, if_neg (by omega), if_neg (by omega)] at hjudge
  have happlied : applyRequest r r.index s =
      { s with
        table :=
          { s.table with
            live :=
              s.table.live.dropLast ++
                [{ g with ending := some (r.index - 1) },
                  { origin := r.origin, seq := r.seq, cause := .boundary r.cause, start := r.index, ending := none,
                    requested := none }] } } := by
    have hmap : mapLast (fun g : Segment => { g with ending := some (r.index - 1) }) s.table.live =
        s.table.live.dropLast ++ [{ g with ending := some (r.index - 1) }] := by
      conv_lhs => rw [hsnoc]
      exact mapLast_snoc _ _ _
    simp only [applyRequest, if_true, hmap, openedSegment, if_pos hrun, List.append_assoc, List.singleton_append]
  refine (considerHead_applied hqueue hjudge rfl).trans ?_
  rw [considerHead_empty _ rfl, happlied]

/-! ### An accepted marker (R57, R63, R64) -/

theorem joinNote_busy {n : Note} {s : State} (hport : s.spine.port ≠ .free) :
    joinNote n s = { s with spine := { s.spine with notes := s.spine.notes ++ [n] } } := arbitrate_busy _ hport

/-- A request that comes to an empty queue is considered at once (R69, R71). -/
theorem arriveRequest_alone {r : Request} {s : State} (hqueue : s.table.queue = [])
    (hnew : ∀ h ∈ s.table.live, ¬(h.origin = r.origin ∧ h.seq = r.seq)) :
    arriveRequest r s = considerHead { s with table := { s.table with queue := [r] } } := by
  have hfresh : s.isDuplicate r = false := by
    rw [← Bool.not_eq_true, isDuplicate_iff, hqueue]
    rintro (⟨q, hq, -⟩ | ⟨h, hh, horigin, hseq⟩)
    · exact nomatch hq
    · exact hnew h hh ⟨horigin, hseq⟩
  rw [arriveRequest_new hfresh, hqueue, if_neg (by decide), if_pos (by simp [State.frontOfQueue, hqueue])]
  rfl

/-- Settles O24. -/
theorem markerAccepted : Obligations.MarkerAccepted := by
  intro line now noted setup s hr hrun hsetup hqualifying hnoted hwindow hnotes
  obtain ⟨u, hu⟩ : ∃ u : State, u =
    { s with
      markers :=
        { lines := s.markers.lines.set line { phase := .latched, latch := true }
          window := s.markers.window ++ [now]
          lastSeq := s.markers.nextSeq
          nextSeq := nextMarkerSeq s.markers.nextSeq } } := ⟨_, rfl⟩
  obtain ⟨n, hn⟩ : ∃ n : Note, n = { origin := s.unitOrigin, body := .marker s.markers.nextSeq line noted } := ⟨_, rfl⟩
  obtain ⟨r, hrequest⟩ : ∃ r : Request, r =
    { origin := s.unitOrigin.source, seq := s.markers.nextSeq, index := noted, cause := .localLine line } := ⟨_, rfl⟩
  have heffect : effect (.markerQualify line now) s = arriveRequest r (joinNote n u) := by
    refine (qualifyMarker_of_qualifying hrun hsetup hqualifying hnoted).trans ?_
    rw [if_pos ⟨hwindow, hnotes⟩, hu, hn, hrequest]
    rfl
  obtain ⟨y, hy⟩ : ∃ y, y = arriveRequest r (joinNote n u) := ⟨_, rfl⟩
  have hsettled : settled (.markerQualify line now) s = settleFrom s y := by
    rw [hy, ← heffect]
    rfl
  obtain ⟨t, ht⟩ : ∃ t, t = report s (settleFrom s y) := ⟨_, rfl⟩
  refine ⟨t, by rw [ht, exec_free rfl hr, hsettled], ?_, fun hport => ?_,
    fun g hqueue hlive hroom hstart hdrain htaken hfour hnew => ?_, ?_⟩
  · rw [ht, report_markers, settleFrom_markers, hy, arriveRequest_markers, joinNote_markers, hu]
    rfl
  · have hjoined : joinNote n u = { u with spine := { u.spine with notes := u.spine.notes ++ [n] } } :=
      joinNote_busy (by rw [hu]; exact hport)
    have hbusy : y.busyWith s.spine.port (s.spine.notes ++ [n]) := by
      rw [State.busyWith, hy, arriveRequest_spine, hjoined, hu]
      exact ⟨rfl, rfl⟩
    rw [ht, report_spine, ← hn]
    exact ((busyWith_settling hport _).settleFrom s y hbusy).2
  · have htable : (joinNote n u).table = s.table := by rw [joinNote_table, hu]
    have hcut : y = considerHead { joinNote n u with table := { s.table with queue := [r] } } := by
      rw [hy, arriveRequest_alone (by rw [htable]; exact hqueue) (by rw [htable, hrequest]; exact hnew), htable]
    have hcuts := considerHead_cuts (s := { joinNote n u with table := { s.table with queue := [r] } }) (r := r) (g := g) rfl hlive
      (by simpa [hu] using hrun) hroom (by rw [hrequest]; exact hstart) (by simpa [hu, hrequest] using hdrain)
      (by simpa [hu, hrequest] using htaken)
    have hfull : settleFrom s y = y := settleFrom_full _ _ (by rw [hy, arriveRequest_spine, joinNote_spine_frames, hu]; exact hfour)
    rw [ht, hfull, report_table, hcut, hcuts, hrequest]
    exact ⟨rfl, rfl⟩
  · rw [ht, ← hsettled]
    exact report_drained_sameBut
      (sameBut_mono (effect_sameBut (.markerQualify line now) s) (by simp [reach, drainParts])) (by simp)

/-! ### A sample set within a block (R1, R3, R6, R71 to R73) -/

/-- The intake after a sample set is written (R3, R6). -/
theorem writeSample_intake (lanes : Vector Sample 8) (s : State) :
    (writeSample lanes s).intake =
      { s.intake with
        point := s.intake.point + 1
        laneMark := (decide (s.intake.point % 512 ≠ 0) && s.intake.laneMark) || s.laneFault
        filling :=
          if s.intake.point % 512 = 0 then (lanes.toList.take s.channels).map fun x => [x]
          else List.zipWith (fun channel x => channel ++ [x]) s.intake.filling (lanes.toList.take s.channels) } := by
  by_cases hstarts : s.intake.point % 512 = 0 <;>
    simp [writeSample, fillBlock, State.sampleSet, hstarts]

theorem writeSample_sameBut (lanes : Vector Sample 8) (s : State) : sameBut [.intake] s (writeSample lanes s) := by
  intro p hp; cases p <;> simp [Part.same] at hp ⊢

/-- A sample set within a block, with no STOP held: the head request is considered, and that is all (R6, R71). -/
theorem takeSampleSet_within {lanes : Vector Sample 8} {s : State} (hwithin : (s.intake.point + 1) % 512 ≠ 0)
    (hstop : s.intake.stopHeld = false) : takeSampleSet lanes s = considerHead (writeSample lanes s) := by
  have hadvance : advanceIntake lanes s = considerHead (writeSample lanes s) := by
    simp only [advanceIntake]
    rw [if_neg]
    exact hwithin
  have hlimit : (considerHead (writeSample lanes s)).intake.point ≠ 2 ^ 48 := by
    rw [considerHead_intake, writeSample_point]
    omega
  have hheld : ¬(considerHead (writeSample lanes s)).intake.stopHeld = true := by
    rw [considerHead_intake, writeSample_intake]
    simp [hstop]
  simp only [takeSampleSet, hadvance]
  rw [if_neg hlimit, if_neg hheld]

/-- Settles O18. -/
theorem sampleSetWritten : Obligations.SampleSetWritten := by
  refine ⟨fun lanes s hr hf hphase => exec_of_no_effect rfl hr hf (if_neg hphase), fun lanes s hr hf hphase hwithin hstop => ?_⟩
  obtain ⟨u, hu⟩ : ∃ u, u = writeSample lanes s := ⟨_, rfl⟩
  have heffect : effect (.sampleSetTaken lanes) s = considerHead u := by
    rw [hu, ← takeSampleSet_within hwithin hstop]
    exact if_pos hphase
  have hsettled : settled (.sampleSetTaken lanes) s = settleFrom s (considerHead u) := by
    rw [← heffect]
    rfl
  have hquiet : Quiet s (effect (.sampleSetTaken lanes) s) := by
    rw [heffect]
    exact (considerHead_quiet u).after (by rw [hu]; rfl) (by rw [hu]; rfl)
  have hwritten : sameBut [.intake] s u := hu ▸ writeSample_sameBut lanes s
  have hunmoved (h : considerHead u = u) : sameBut [.intake] s (settleFrom s (considerHead u)) := by
    rw [h, settleFrom_same s u (by rw [hu]; rfl)]
    exact hwritten
  refine ⟨settleFrom s (considerHead u), by rw [exec_of_quiet rfl hr hf hquiet, hsettled], ?_, ?_, ?_, fun hqueue => ?_,
    fun r rest g hqueue hlive hrun => ⟨fun hne hbeyond => ?_, fun hrest hstart hdrain htaken hroom hfour => ?_⟩⟩
  · rw [settleFrom_intake, considerHead_intake, hu, writeSample_intake]
  · refine sameBut_trans (sameBut_trans (sameBut_mono hwritten (by simp)) ?_) (sameBut_mono (settleFrom_sameBut _ _) (by simp))
    intro p hp; cases p <;> simp [Part.same, drainParts] at hp ⊢
  · refine drainKeeps_trans ?_ (settleFrom_keeps s (considerHead u))
    rw [hu]
    constructor <;> simp
  · exact hunmoved (considerHead_empty u (by rw [hu]; exact hqueue))
  · refine hunmoved (considerHead_waits u r rest (by rw [hu]; exact hqueue) ?_)
    have hlive' : u.table.live = s.table.live.dropLast ++ [g] := by
      rw [hu]
      exact snoc_of_getLast? hlive
    have hrun' : u.station.phase = .run := by rw [hu]; exact hrun
    have hlimit : u.limit = s.intake.point + 1 := by
      rw [State.limit, if_pos hrun', hu, writeSample_point]
    have hdrain : u.assembler.drain = s.assembler.drain := by rw [hu]; rfl
    rw [judgeRequest_snoc hlive' r, hdrain, if_neg hne, hlimit, if_pos hbeyond, if_pos hrun']
  · have hpoint : u.intake.point = s.intake.point + 1 := by rw [hu, writeSample_point]
    have hcuts := considerHead_cuts (s := u) (r := r) (g := g) (by rw [hu, ← hrest]; exact hqueue) (by rw [hu]; exact hlive)
      (by rw [hu]; exact hrun) (by rw [hu]; exact hroom) hstart (by rw [hu]; exact hdrain) (by omega)
    have hfull : settleFrom s (considerHead u) = considerHead u :=
      settleFrom_full _ _ (by rw [considerHead_spine, hu]; exact hfour)
    rw [hfull, hcuts, hu]
    rfl

/-! ### The decision of a complete block (R9 to R13, R27) -/

section Decide

variable {s : State}

theorem decideBlock_held (ho : s.gaps.overrun = true) (hfull : 32 ≤ s.gaps.entries.length) : decideBlock s = .held :=
  if_pos ⟨ho, hfull⟩

/-- Past step 1 of R10. -/
theorem decideBlock_past_held (h : s.gaps.overrun = false ∨ s.gaps.entries.length < 32) :
    decideBlock s =
      if s.intake.laneMark then .drop .lane
      else if s.memory.thermal = .overtemp then .drop .thermal
      else if s.capacity ≤ s.held then .drop .ringFull
      else if 32 ≤ s.memory.staging.length then .drop .portBusy
      else .stage := by
  rw [decideBlock, if_neg]
  rintro ⟨ho, hfull⟩
  rcases h with h | h
  · simp [h] at ho
  · exact absurd hfull (Nat.not_le.2 h)

end Decide

theorem completeBlock_memory_op (s : State) :
    (completeBlock s).memory.op =
      if decideBlock s = .stage then
        (grantPort
          { s with
            memory :=
              { s.memory with
                staging := s.memory.staging ++
                  [{ number := blockNumberAt s.intake.point, fill := blockFillAt s.intake.point,
                     samples := s.intake.filling }] } }).memory.op
      else s.memory.op := by
  unfold completeBlock
  cases hd : decideBlock s with
  | held => simp [countDropped]
  | drop cause => simp [countDropped]
  | stage =>
    simp only [if_true, report_memory, stageBlock, grantPort]
    split
    · split <;> rfl
    · rfl

/-- A busy port stays as it is at a decision (R27). -/
theorem completeBlock_busy {s : State} (hop : s.memory.op.isSome = true) : (completeBlock s).memory.op = s.memory.op := by
  rw [completeBlock_memory_op]
  split
  · rw [grantPort_busy]
    rintro ⟨-, hfree⟩
    simp only at hfree
    simp [hfree] at hop
  · rfl

/-- At a free port a staged block brings the first claim of R27: a forced refresh or the write. -/
theorem completeBlock_grants {s : State} (hd : decideBlock s = .stage) (hop : s.memory.op = none)
    (hself : s.memory.selfRefresh = false) :
    (completeBlock s).memory.op = some { op := if s.memory.owed = 8 then .refresh .forced else .write } := by
  have hstaged (l : List Block) (b : Block) : (!(l ++ [b]).isEmpty) = true := by simp
  rw [completeBlock_memory_op, if_pos hd]
  obtain ⟨u, hu⟩ : ∃ u : State, u =
    { s with
      memory :=
        { s.memory with
          staging := s.memory.staging ++
            [{ number := blockNumberAt s.intake.point, fill := blockFillAt s.intake.point,
               samples := s.intake.filling }] } } := ⟨_, rfl⟩
  rw [← hu, grantPort_memory u (by rw [hu]; exact hself) (by rw [hu]; exact hop), hu]
  simp only [hstaged, firstClaim]
  split <;> rfl

/-- A sample set that completes a block before the last index, with no STOP held (R9). -/
theorem takeSampleSet_completes {lanes : Vector Sample 8} {s : State} (hfull : (s.intake.point + 1) % 512 = 0)
    (hlimit : s.intake.point + 1 ≠ 2 ^ 48) (hstop : s.intake.stopHeld = false) :
    takeSampleSet lanes s = considerHead (completeBlock (writeSample lanes s)) := by
  have hadvance : advanceIntake lanes s = considerHead (completeBlock (writeSample lanes s)) := by
    simp only [advanceIntake]
    rw [if_pos]
    exact hfull
  have hpoint : (considerHead (completeBlock (writeSample lanes s))).intake.point ≠ 2 ^ 48 := by
    rw [considerHead_intake, completeBlock_intake, writeSample_intake]
    exact hlimit
  have hheld : ¬(considerHead (completeBlock (writeSample lanes s))).intake.stopHeld = true := by
    rw [considerHead_intake, completeBlock_intake, writeSample_intake]
    simp [hstop]
  simp only [takeSampleSet, hadvance]
  rw [if_neg hpoint, if_neg hheld]

/-- Settles O19. -/
theorem blockDecided : Obligations.BlockDecided := by
  refine ⟨fun s => ⟨fun ho hfull => decideBlock_held ho (Nat.le_of_eq hfull.symm), fun hpast => ?_⟩,
    fun lanes s hr hphase hfull hlimit hstop => ?_⟩
  · have hdecide := decideBlock_past_held hpast
    refine ⟨fun hlane => ?_, fun hlane hthermal => ?_, fun hlane hthermal hring => ?_, fun hlane hthermal hring hstaged => ?_,
      fun hlane hthermal hring hstaged => ?_⟩
    · rw [hdecide, if_pos hlane]
    · rw [hdecide, if_neg (by simp [hlane]), if_pos hthermal]
    · rw [hdecide, if_neg (by simp [hlane]), if_neg hthermal, if_pos (Nat.le_of_eq hring.symm)]
    · rw [hdecide, if_neg (by simp [hlane]), if_neg hthermal, if_neg (Nat.not_le.2 hring), if_pos (Nat.le_of_eq hstaged.symm)]
    · rw [hdecide, if_neg (by simp [hlane]), if_neg hthermal, if_neg (Nat.not_le.2 hring), if_neg (Nat.not_le.2 hstaged)]
  obtain ⟨u, hu⟩ : ∃ u, u = writeSample lanes s := ⟨_, rfl⟩
  obtain ⟨y, hy⟩ : ∃ y, y = considerHead (completeBlock u) := ⟨_, rfl⟩
  have heffect : effect (.sampleSetTaken lanes) s = y := by
    rw [hy, hu, ← takeSampleSet_completes hfull hlimit hstop]
    exact if_pos hphase
  have hsettled : settled (.sampleSetTaken lanes) s = settleFrom s y := by
    rw [← heffect]
    rfl
  obtain ⟨t, ht⟩ : ∃ t, t = report s (settleFrom s y) := ⟨_, rfl⟩
  have hpoint : u.intake.point = s.intake.point + 1 := by rw [hu, writeSample_point]
  have hnumber : blockNumberAt u.intake.point = s.intake.point / 512 := by
    rw [blockNumberAt, hpoint]
    rfl
  have hfill : blockFillAt u.intake.point = 512 := by
    have hplace : blockFillAt u.intake.point = s.intake.point % 512 + 1 := by
      rw [blockFillAt, hpoint]
      rfl
    omega
  have hmemory : y.memory = (completeBlock u).memory := by rw [hy, considerHead_memory]
  have hstaging : t.memory.staging = (completeBlock u).memory.staging := by
    rw [ht, report_memory, settleFrom_memory_staging, hmemory]
  have hstored : t.memory.storedCount = s.memory.storedCount := by
    rw [ht, report_memory, settleFrom_memory_storedCount, hmemory, completeBlock_memory_storedCount, hu]
    rfl
  have hstagedCount : t.counters.staged = (completeBlock u).counters.staged := by
    rw [ht, report_counters, settleFrom_counters_staged, hy, considerHead_counters_staged]
  have hgapSamples : t.counters.gapSamples = (completeBlock u).counters.gapSamples := by
    rw [ht, report_counters, settleFrom_counters_gapSamples, hy, considerHead_counters_gapSamples]
  have hop {op : PortUse} (h : (completeBlock u).memory.op = some op) : t.memory.op = some op := by
    have hstands := (portStands_settling (op := some op) nofun y.counters.forcedRefresh).settleFrom s y
      ⟨(congrArg _ hmemory).trans h, rfl⟩
    rw [ht, report_memory]
    exact hstands.1
  refine ⟨t, _, by rw [ht, exec_free rfl hr, hsettled], rfl, ?_, fun hstage => ?_, fun hdrop => ?_, fun hfour hrun => ?_, ?_⟩
  · rw [ht, report_intake, settleFrom_intake, hy, considerHead_intake, completeBlock_intake, hu, writeSample_intake]
  · rw [← hu] at hstage
    obtain ⟨hblocks, hcount, hsamples⟩ := completeBlock_stage u hstage
    rw [hnumber, hfill] at hblocks
    have hstaged : t.memory.staging = s.memory.staging ++
        [{ number := s.intake.point / 512, fill := 512, samples := (writeSample lanes s).intake.filling }] := by
      rw [hstaging, hblocks, hu]
      rfl
    refine ⟨hstaged, ?_, ?_, ?_, fun hbusy => ?_, fun hfree hself => ?_⟩
    · rw [hstagedCount, hcount, hu]
      rfl
    · rw [hgapSamples, hsamples, hu]
      rfl
    · rw [State.held, State.held, hstaged, hstored, List.length_append, List.length_singleton]
      omega
    · obtain ⟨op, hop'⟩ := Option.isSome_iff_exists.1 hbusy
      have hop'' : u.memory.op = some op := by rw [hu]; exact hop'
      rw [hop', hop ((completeBlock_busy (by rw [hop'']; rfl)).trans hop'')]
    · rw [hop (completeBlock_grants hstage (by rw [hu]; exact hfree) (by rw [hu]; exact hself)), hu]
      rfl
  · rw [← hu] at hdrop
    obtain ⟨hblocks, hcount, hsamples⟩ := completeBlock_drop u hdrop
    rw [hfill] at hsamples
    have hstaged : t.memory.staging = s.memory.staging := by
      rw [hstaging, hblocks, hu]
      rfl
    refine ⟨hstaged, ?_, ?_, ?_⟩
    · rw [hstagedCount, hcount, hu]
      rfl
    · rw [hgapSamples, hsamples, hu]
      rfl
    · rw [State.held, State.held, hstaged, hstored]
  · have hspine : y.spine = s.spine := by rw [hy, considerHead_spine, completeBlock_spine, hu]; rfl
    have hfull : settleFrom s y = y := settleFrom_full _ _ (by rw [hspine]; exact hfour)
    rw [ht, hfull, ← hu]
    refine ⟨?_, by rw [report_spine, hspine], ?_⟩
    · rw [report_gaps, hy, considerHead_gaps, completeBlock_gaps, hnumber, hfill, hu]
      rfl
    · rw [report_assembler, hy, considerHead_assembler, completeBlock_assembler, hu]
      rfl
  · rw [ht, ← hsettled]
    exact report_drained_sameBut (sameBut_trans (sameBut_mono (writeSample_sameBut lanes s) (by simp)) (by
      rw [heffect, hy, hu]
      intro p hp; cases p <;> simp [Part.same, drainParts] at hp ⊢)) (by simp)

end Sys2Proof.Machine
end

section
/-! PROOFS. The run's end, by a STOP, by a held STOP and by index exhaustion (R15, R16, R45, R55, R58, R70, R81, R164, R166). -/

namespace Sys2Proof.Machine

/-! ### The newest element of a list that changed elsewhere -/

theorem getLast?_mapLast {α : Type} (f : α → α) (l : List α) : (mapLast f l).getLast? = l.getLast?.map f := by
  rcases List.eq_nil_or_concat l with rfl | ⟨before, x, rfl⟩
  · rfl
  · rw [List.concat_eq_append, mapLast_snoc, List.getLast?_concat, List.getLast?_concat, Option.map_some]

theorem getLast?_of_tail {α : Type} {l : List α} {x : α} (h : l.tail.getLast? = some x) : l.getLast? = some x := by
  rcases l with - | ⟨a, - | ⟨b, rest⟩⟩
  · exact h
  · exact nomatch h
  · rwa [List.getLast?_cons_cons]

theorem getLast?_of_mapHead {α : Type} {f : α → α} {l : List α} {x : α} (h : (mapHead f l).getLast? = some x) :
    ∃ y, l.getLast? = some y ∧ (x = y ∨ x = f y) := by
  rcases l with - | ⟨a, - | ⟨b, rest⟩⟩
  · exact nomatch h
  · exact ⟨a, rfl, .inr (Option.some.inj h).symm⟩
  · rw [mapHead, List.getLast?_cons_cons] at h
    exact ⟨x, by rw [List.getLast?_cons_cons]; exact h, .inl rfl⟩

/-! ### The Boundary Queue outside RUN (R70, R72, R81) -/

theorem judgeRequest_ended {s : State} (h : s.station.phase ≠ .run) (r : Request) : judgeRequest s r ≠ .waiting := by
  unfold judgeRequest
  split
  · exact nofun
  · simp only [if_neg h]
    repeat' split
    all_goals exact nofun

/-- Outside RUN no request waits (R72). -/
theorem considerRequests_ended {queue : List Request} {s : State} (h : s.station.phase ≠ .run) :
    (considerRequests queue s).table.queue = [] := by
  induction queue generalizing s with
  | nil => rfl
  | cons r rest ih =>
    rw [considerRequests_cons]
    split
    · next hwaits => exact absurd hwaits (judgeRequest_ended h r)
    · exact ih (by rw [absorbRequest_station]; exact h)
    · exact ih (by rw [applyRequest_station]; exact h)

theorem absorbRequest_limit (coincident : Bool) (s : State) : (absorbRequest coincident s).limit = s.limit := by
  cases coincident <;> rfl

theorem applyRequest_limit (r : Request) (start : Nat) (s : State) : (applyRequest r start s).limit = s.limit := by
  rw [State.limit, State.limit, applyRequest_station, applyRequest_intake]

/-- Outside RUN a request at or beyond the limit is absorbed (R72). -/
theorem judgeRequest_beyond {s : State} {r : Request} (h : s.station.phase ≠ .run) (hindex : s.limit ≤ r.index) :
    ∃ coincident, judgeRequest s r = .absorbed coincident := by
  unfold judgeRequest
  split
  · exact ⟨_, rfl⟩
  · next last _ =>
    have hbeyond : s.limit ≤ clampedIndex last.start s.assembler.drain r.index := hindex.trans (Nat.le_max_left _ _)
    simp only [if_neg h, if_pos hbeyond]
    split <;> exact ⟨_, rfl⟩

/-- Outside RUN every request at or beyond the limit is absorbed and counted (R70, R81). -/
theorem considerRequests_absorbs {queue : List Request} {s : State} (h : s.station.phase ≠ .run)
    (hindex : ∀ r ∈ queue, s.limit ≤ r.index) (hcount : s.counters.absorbed ≤ Config.counter32) :
    (considerRequests queue s).counters.absorbed = min Config.counter32 (s.counters.absorbed + queue.length) := by
  induction queue generalizing s with
  | nil => exact (Nat.min_eq_right hcount).symm
  | cons r rest ih =>
    obtain ⟨coincident, hjudged⟩ := judgeRequest_beyond h (hindex r List.mem_cons_self)
    have habsorbed : (absorbRequest coincident s).counters.absorbed = min Config.counter32 (s.counters.absorbed + 1) := by
      cases coincident <;> rfl
    rw [considerRequests_cons, hjudged]
    simp only
    rw [ih (by rw [absorbRequest_station]; exact h), habsorbed, List.length_cons]
    · omega
    · intro q hq
      rw [absorbRequest_limit]
      exact hindex q (List.mem_cons_of_mem _ hq)
    · rw [habsorbed]
      exact Nat.min_le_left _ _

/-- The end of a newest segment: OPEN in RUN, the sample before the intake end otherwise (R73, R74, R81). -/
def State.newestEnd (s : State) : Option Nat := if s.station.phase = .run then none else some (s.limit - 1)

/-- The newest segment, if one is live, has this end. -/
def State.endsAt (ending : Option Nat) (s : State) : Prop := ∀ g, s.table.live.getLast? = some g → g.ending = ending

theorem endsAt_absorbRequest {ending : Option Nat} {s : State} (coincident : Bool) (h : s.endsAt ending) :
    (absorbRequest coincident s).endsAt ending := by
  intro g hg
  have hlive : (absorbRequest coincident s).table.live =
      mapLast (fun g => { g with absorbed := satAdd Config.counter16 g.absorbed 1 }) s.table.live := by
    cases coincident <;> rfl
  rw [hlive, getLast?_mapLast] at hg
  obtain ⟨g', hg', rfl⟩ := Option.map_eq_some_iff.1 hg
  exact h g' hg'

theorem endsAt_applyRequest (r : Request) (start : Nat) (s : State) : (applyRequest r start s).endsAt s.newestEnd := by
  intro g hg
  obtain ⟨before, hlive⟩ : ∃ before, (applyRequest r start s).table.live = before ++ [openedSegment r start s.newestEnd] := by
    unfold applyRequest
    simp only
    split <;> exact ⟨_, rfl⟩
  rw [hlive, List.getLast?_concat] at hg
  rw [← Option.some.inj hg]
  rfl

/-- A consideration keeps the end of the newest segment (R73, R74). -/
theorem endsAt_considerRequests {queue : List Request} {s : State} {ending : Option Nat} (hending : s.newestEnd = ending)
    (h : s.endsAt ending) : (considerRequests queue s).endsAt ending := by
  induction queue generalizing s with
  | nil => exact h
  | cons r rest ih =>
    rw [considerRequests_cons]
    split
    · exact h
    · next coincident _ =>
      refine ih ?_ (endsAt_absorbRequest coincident h)
      rw [State.newestEnd, absorbRequest_limit, absorbRequest_station]
      exact hending
    · next start _ =>
      refine ih ?_ (hending ▸ endsAt_applyRequest r start s)
      rw [State.newestEnd, applyRequest_limit, applyRequest_station]
      exact hending

/-! ### The run's end, block by block (R15, R16, R45, R81, R164) -/

/-- The run's last block is decided where it is partial (R15). -/
def lastBlockDecided (s : State) : State := if s.intake.point % 512 = 0 then s else completeBlock s

/-- The intake, the Gap List and the lines close out the run, and the station is in FLUSH (R45, R55, R58, R164). -/
def runClosed (s : State) : State :=
  { s with
    intake := { s.intake with phase := .ended, ending := some s.intake.point, filling := [], laneMark := false, stopHeld := false }
    gaps := s.gaps.runEnd
    markers := { s.markers with lines := linesRunEnd s.markers.lines }
    station := { s.station with phase := .flush } }

theorem endRun_eq (s : State) : endRun s = segmentRunEnd (runClosed (lastBlockDecided s)) := rfl

/-- The segment that is OPEN at the run's end is CLOSED (R81). -/
def Segment.closedAt (last : Nat) (g : Segment) : Segment := if g.ending.isNone then { g with ending := some last } else g

section EndRun

variable (s : State)

theorem lastBlockDecided_kept :
    (lastBlockDecided s).table = s.table ∧ (lastBlockDecided s).intake.point = s.intake.point ∧
      (lastBlockDecided s).counters.absorbed = s.counters.absorbed := by
  unfold lastBlockDecided
  split <;> simp

theorem runClosed_limit : (runClosed s).limit = s.intake.point := rfl

/-- The table at the run's end: the OPEN segment is CLOSED, then the requests are considered against the end (R81). -/
theorem endRun_table :
    (endRun s).table =
      (considerRequests s.table.queue
        { runClosed (lastBlockDecided s) with
          table := { s.table with live := mapLast (Segment.closedAt (s.intake.point - 1)) s.table.live } }).table := by
  obtain ⟨htable, hpoint, -⟩ := lastBlockDecided_kept s
  rw [endRun_eq, segmentRunEnd, considerHead, runClosed_limit, hpoint]
  have hclosed : (runClosed (lastBlockDecided s)).table = s.table := htable
  rw [hclosed]
  rfl

theorem endRun_queue : (endRun s).table.queue = [] := by
  rw [endRun_table]
  exact considerRequests_ended nofun

theorem endRun_gaps : (endRun s).gaps = (lastBlockDecided s).gaps.runEnd := by
  rw [endRun_eq, segmentRunEnd_gaps]
  rfl

theorem endRun_memory : (endRun s).memory = (lastBlockDecided s).memory := by
  rw [endRun_eq, segmentRunEnd_memory]
  rfl

theorem endRun_counters_staged : (endRun s).counters.staged = (lastBlockDecided s).counters.staged := by
  rw [endRun_eq, segmentRunEnd_counters_staged]
  rfl

theorem endRun_counters_gapSamples : (endRun s).counters.gapSamples = (lastBlockDecided s).counters.gapSamples := by
  rw [endRun_eq, segmentRunEnd_counters_gapSamples]
  rfl

variable {s}

/-- The segment that was OPEN ends at the sample before the intake end, and so does one split from it (R74, R81). -/
theorem endRun_endsAt (h : s.endsAt none) : (endRun s).endsAt (some (s.intake.point - 1)) := by
  obtain ⟨-, hpoint, -⟩ := lastBlockDecided_kept s
  obtain ⟨u, hu⟩ : ∃ u : State, u =
    { runClosed (lastBlockDecided s) with
      table := { s.table with live := mapLast (Segment.closedAt (s.intake.point - 1)) s.table.live } } := ⟨_, rfl⟩
  have hclosed : u.endsAt (some (s.intake.point - 1)) := by
    intro g hg
    rw [hu] at hg
    simp only [getLast?_mapLast] at hg
    obtain ⟨g', hg', rfl⟩ := Option.map_eq_some_iff.1 hg
    simp [Segment.closedAt, h g' hg']
  have hending : u.newestEnd = some (s.intake.point - 1) := by
    rw [hu, ← hpoint]
    rfl
  have hends := endsAt_considerRequests (queue := s.table.queue) hending hclosed
  rw [hu] at hends
  intro g hg
  rw [endRun_table] at hg
  exact hends g hg

theorem endRun_absorbed (hindex : ∀ r ∈ s.table.queue, s.intake.point ≤ r.index)
    (hcount : s.counters.absorbed ≤ Config.counter32) :
    (endRun s).counters.absorbed = min Config.counter32 (s.counters.absorbed + s.table.queue.length) := by
  obtain ⟨htable, hpoint, habsorbed⟩ := lastBlockDecided_kept s
  obtain ⟨u, hu⟩ : ∃ u : State, u =
    { runClosed (lastBlockDecided s) with
      table :=
        { (runClosed (lastBlockDecided s)).table with
          live := mapLast (fun g => if g.ending.isNone then { g with ending := some ((runClosed (lastBlockDecided s)).limit - 1) } else g)
            (runClosed (lastBlockDecided s)).table.live } } := ⟨_, rfl⟩
  have hqueue : u.table.queue = s.table.queue := by rw [hu, ← htable]; rfl
  have hlimit : u.limit = s.intake.point := by rw [hu, ← hpoint]; rfl
  have hstart : u.counters.absorbed = s.counters.absorbed := by rw [hu, ← habsorbed]; rfl
  have hend : endRun s = considerRequests u.table.queue u := by rw [hu, endRun_eq]; rfl
  rw [hend, hqueue, considerRequests_absorbs (by rw [hu]; exact nofun) (by rw [hlimit]; exact hindex) (by rw [hstart]; exact hcount), hstart]

/-- With no request queued the last segment ends at the sample before the intake end (R81). -/
theorem endRun_live {before : List Segment} {g : Segment} (hqueue : s.table.queue = []) (hlive : s.table.live = before ++ [g])
    (hopen : g.ending = none) : (endRun s).table.live = before ++ [{ g with ending := some (s.intake.point - 1) }] := by
  have hclosed : g.closedAt (s.intake.point - 1) = { g with ending := some (s.intake.point - 1) } := by
    rw [Segment.closedAt, hopen]
    rfl
  rw [endRun_table, hqueue, hlive, mapLast_snoc, hclosed]
  rfl

end EndRun

/-! ### The Gap List at the run's end (R45, R47) -/

/-- No overrun is in force, no gap is active, and the newest entry is CLOSED. -/
structure GapList.Closed (g : GapList) : Prop where
  overrun : g.overrun = false
  active : g.active = false
  newest : ∀ e, g.entries.getLast? = some e → e.isOpen = false

theorem GapList.closed_runEnd (g : GapList) : g.runEnd.Closed where
  overrun := rfl
  active := rfl
  newest e he := by
    have hentries : g.runEnd.entries = mapLast (fun e => { e with isOpen := false }) g.entries := rfl
    rw [hentries, getLast?_mapLast] at he
    obtain ⟨e', -, rfl⟩ := Option.map_eq_some_iff.1 he
    rfl

/-- A GAP frame's consumption opens no entry (R47). -/
theorem GapList.closed_consume {g : GapList} (k : Nat) (h : g.Closed) : (g.consume k).Closed := by
  obtain ⟨hactive, hoverrun⟩ := consume_conditions k g
  refine ⟨hoverrun.trans h.overrun, hactive.trans h.active, fun e he => ?_⟩
  unfold GapList.consume at he
  split at he
  · exact h.newest e he
  · next e₀ rest hentries =>
    have hhead (e₁ : GapEntry) (hopen : e₁.isOpen = e₀.isOpen) (he : (e₁ :: rest).getLast? = some e) : e.isOpen = false := by
      cases rest with
      | nil =>
        have hsame : e₁ = e := Option.some.inj he
        rw [← hsame, hopen]
        exact h.newest e₀ (by rw [hentries]; rfl)
      | cons e₂ rest =>
        rw [List.getLast?_cons_cons] at he
        exact h.newest e (by rw [hentries, List.getLast?_cons_cons, he])
    split at he
    · exact hhead { e₀ with first := e₀.first + k, count := e₀.count - k } rfl he
    · split at he
      · next part _ => exact hhead { e₀ with first := part.first, count := part.count, heldFlag := true, heldPart := none } rfl he
      · refine h.newest e ?_
        rw [hentries]
        exact getLast?_of_tail he

theorem closed_settling : SettlingKeeps fun t => t.gaps.Closed where
  memoryGap t h := by rw [placeMemoryGap_gaps]; exact h
  due due t _ h := by
    cases due with
    | trailer g => rw [takeDueFrame, placeTrailer_gaps]; exact h
    | gap g e =>
      have hgaps : (takeDueFrame (.gap g e) t).gaps = t.gaps.consume (gapSpan g e) := by
        rw [takeDueFrame, placeGap, considerHead_gaps]
        simp
      rw [hgaps]
      exact GapList.closed_consume _ h
    | data g last => rw [takeDueFrame, startData_gaps]; exact h
  flush t h := by rw [completeFlush_gaps]; exact h

/-! ### The table and the station once the run has ended (R81, R166) -/

/-- A due frame with no request queued: the head segment retires, counts or stays (R84, R95, R97). -/
theorem takeDueFrame_idle_queue (due : DueFrame) {s : State} (hqueue : s.table.queue = []) :
    (takeDueFrame due s).table.queue = [] ∧ (takeDueFrame due s).counters.absorbed = s.counters.absorbed ∧
      ((takeDueFrame due s).table.live = s.table.live.tail ∨
        (∃ k, (takeDueFrame due s).table.live = mapHead (Segment.countGap k) s.table.live) ∨
        (takeDueFrame due s).table.live = s.table.live) := by
  cases due with
  | trailer g => exact ⟨by simp [takeDueFrame, placeTrailer, hqueue], by simp [takeDueFrame], .inl (by simp [takeDueFrame, placeTrailer])⟩
  | gap g e =>
    rw [takeDueFrame, placeGap, considerHead_empty]
    · exact ⟨by simp [hqueue], by simp, .inr (.inl ⟨gapSpan g e, by simp⟩)⟩
    · simp [hqueue]
  | data g last =>
    rw [takeDueFrame, startData, considerHead_empty]
    · exact ⟨by rw [grantPort_table]; exact hqueue, by rw [grantPort_counters_absorbed], .inr (.inr (by rw [grantPort_table]))⟩
    · rw [grantPort_table]
      exact hqueue

/-- No request is queued, and so many were absorbed. -/
def State.queueDone (absorbed : Nat) (t : State) : Prop := t.table.queue = [] ∧ t.counters.absorbed = absorbed

theorem queueDone_settling (absorbed : Nat) : SettlingKeeps (State.queueDone absorbed) where
  memoryGap t h := ⟨by rw [placeMemoryGap_table_queue]; exact h.1, by rw [placeMemoryGap_counters]; exact h.2⟩
  due due t _ h := by
    obtain ⟨hqueue, hcount, -⟩ := takeDueFrame_idle_queue due h.1
    exact ⟨hqueue, hcount.trans h.2⟩
  flush t h := ⟨by rw [completeFlush_table]; exact h.1, by rw [completeFlush_counters]; exact h.2⟩

theorem endsAt_of_mapHead {ending : Option Nat} {s t : State} {k : Nat} (hs : s.endsAt ending)
    (hlive : t.table.live = mapHead (Segment.countGap k) s.table.live) : t.endsAt ending := by
  intro g hg
  rw [hlive] at hg
  obtain ⟨g', hg', rfl | rfl⟩ := getLast?_of_mapHead hg
  · exact hs _ hg'
  · exact hs g' hg'

theorem endsAt_settling (ending : Option Nat) : SettlingKeeps fun t => t.table.queue = [] ∧ t.endsAt ending where
  memoryGap t h := by
    refine ⟨by rw [placeMemoryGap_table_queue]; exact h.1, ?_⟩
    unfold placeMemoryGap
    split
    · split
      · next m _ _ => exact endsAt_of_mapHead (k := m.count) h.2 (by simp)
      · exact h.2
    all_goals exact h.2
  due due t _ h := by
    obtain ⟨hqueue, -, hlive | ⟨k, hlive⟩ | hlive⟩ := takeDueFrame_idle_queue due h.1
    · refine ⟨hqueue, fun g hg => h.2 g ?_⟩
      rw [hlive] at hg
      exact getLast?_of_tail hg
    · exact ⟨hqueue, endsAt_of_mapHead h.2 hlive⟩
    · refine ⟨hqueue, fun g hg => h.2 g ?_⟩
      rwa [hlive] at hg
  flush t h := by
    rw [State.endsAt, completeFlush_table]
    exact h

/-- After a settling in FLUSH the station is in FLUSH, or in DONE with the six facts of R165 (R166). -/
theorem settleFrom_flush {before s : State} (h : s.station.phase = .flush) :
    (settleFrom before s).station.phase = .flush ∨
      (settleFrom before s).station.phase = .done ∧ (settleFrom before s).flushed = true := by
  obtain ⟨x, hx, hsettled⟩ : ∃ x : State, x.station.phase = .flush ∧ (settleFrom before s = x ∨ settleFrom before s = completeFlush x) := by
    unfold settleFrom
    split
    · exact ⟨s, h, .inl rfl⟩
    · refine ⟨_, ?_, .inr rfl⟩
      rw [considerFrames_station, placeMemoryGap_station]
      exact h
  rcases hsettled with hsettled | hsettled <;> rw [hsettled]
  · exact .inl hx
  · unfold completeFlush
    split
    · next hflushed => exact .inr ⟨rfl, hflushed.2⟩
    · exact .inl hx

theorem report_flushed (before s : State) : (report before s).flushed = s.flushed := by
  simp [State.flushed, State.held]

theorem station_eq_of {a b : Station} (hconfig : a.config = b.config) (hstart : a.startCount = b.startCount)
    (htag : a.capturedTag = b.capturedTag) (hincarnation : a.incarnation = b.incarnation)
    (hrejection : a.lastRejection = b.lastRejection) (hdevice : a.deviceNumber = b.deviceNumber) :
    a = { b with phase := a.phase } := by
  rw [← hconfig, ← hstart, ← htag, ← hincarnation, ← hrejection, ← hdevice]

/-- What follows the run's end at the same event (R45, R55, R58, R70, R166): `y` is the state at the run's end but for what the
intake and the Management Port did beside it. -/
theorem runEnd_settled {s x y t : State} (hy : sameBut [.intake, .port] (endRun x) y) (ht : t = report s (settleFrom s y)) :
    (t.station.phase = .flush ∨ (t.station.phase = .done ∧ t.flushed = true)) ∧
      (∀ line : Fin 4, t.markers.lines.get line = { phase := .off, latch := (x.markers.lines.get line).latch }) ∧
      t.markers = { x.markers with lines := t.markers.lines } ∧ t.gaps.Closed ∧ t.table.queue = [] := by
  have hstation : y.station.phase = .flush := by rw [hy .station (by simp), endRun_phase]
  have hmarkers : t.markers = { x.markers with lines := linesRunEnd x.markers.lines } := by
    rw [ht, report_markers, settleFrom_markers, hy .markers (by simp), endRun_markers]
  refine ⟨?_, fun line => by rw [hmarkers, linesRunEnd_get], by rw [hmarkers], ?_, ?_⟩
  · rw [ht, report_station, report_flushed]
    exact settleFrom_flush hstation
  · rw [ht, report_gaps]
    refine closed_settling.settleFrom s y ?_
    rw [hy .gaps (by simp), endRun_gaps]
    exact GapList.closed_runEnd _
  · rw [ht, report_table]
    refine ((queueDone_settling y.counters.absorbed).settleFrom s y ⟨?_, rfl⟩).1
    rw [hy .table (by simp), endRun_queue]

/-- The newest segment's end stands through what follows the run's end. -/
theorem runEnd_settled_endsAt {s x y t : State} (hy : sameBut [.intake, .port] (endRun x) y) (ht : t = report s (settleFrom s y))
    (hopen : x.endsAt none) : t.endsAt (some (x.intake.point - 1)) := by
  have htable : y.table = (endRun x).table := hy .table (by simp)
  have hends : y.table.queue = [] ∧ y.endsAt (some (x.intake.point - 1)) := by
    rw [State.endsAt, htable]
    exact ⟨endRun_queue x, endRun_endsAt hopen⟩
  have hsettled := ((endsAt_settling _).settleFrom s y hends).2
  intro g hg
  rw [ht, report_table] at hg
  exact hsettled g hg

/-! ### A STOP past intake point 0 (R15, R164) -/

/-- Settles O16. -/
theorem stopEndsTheRun : Obligations.StopEndsTheRun := by
  intro c s hr hrun hpoint hc
  obtain ⟨y, hy⟩ : ∃ y, y = effect c s := ⟨_, rfl⟩
  have htake : takeStop s = endRun s := if_neg hpoint
  have heffect : c = .stopEdge ∧ y = endRun s ∨ c = .stopRun ∧ y = answer [resultOk] (endRun s) := by
    rcases hc with rfl | ⟨rfl, hport⟩
    · exact .inl ⟨rfl, by rw [hy, effect, if_pos hrun, htake]⟩
    · exact .inr ⟨rfl, by rw [hy, effect, onCommand_taken hport, if_pos hrun, htake]⟩
  have hresets : resets c = false := by rcases heffect with ⟨rfl, -⟩ | ⟨rfl, -⟩ <;> rfl
  have hsettled : settled c s = settleFrom s y := by rcases heffect with ⟨rfl, -⟩ | ⟨rfl, -⟩ <;> rw [hy] <;> rfl
  have hreach : reach c ⊆ [.intake, .markers, .port] ++ drainParts := by
    rcases heffect with ⟨rfl, -⟩ | ⟨rfl, -⟩ <;> simp [reach, drainParts]
  have hsame : sameBut [.port] (endRun s) y := by
    rcases heffect with ⟨-, rfl⟩ | ⟨-, rfl⟩
    · exact sameBut_refl _ _
    · exact answer_sameBut _ (sameBut_refl _ _) (by simp)
  obtain ⟨t, ht⟩ : ∃ t, t = report s (settleFrom s y) := ⟨_, rfl⟩
  obtain ⟨hphase, hlines, hmarkers, hgaps, hqueue⟩ := runEnd_settled (sameBut_mono hsame (by simp)) ht
  have hystation : y.station = (endRun s).station := hsame .station (by simp)
  have hycounters : y.counters = (endRun s).counters := hsame .counters (by simp)
  have hmemory : y.memory = (lastBlockDecided s).memory := by rw [hsame .memory (by simp), endRun_memory]
  have hstaging : t.memory.staging = (lastBlockDecided s).memory.staging := by
    rw [ht, report_memory, settleFrom_memory_staging, hmemory]
  have hgapSamples : t.counters.gapSamples = (lastBlockDecided s).counters.gapSamples := by
    rw [ht, report_counters, settleFrom_counters_gapSamples, hycounters, endRun_counters_gapSamples]
  have hwhole (h : s.intake.point % 512 = 0) : lastBlockDecided s = s := if_pos h
  have hpartial (h : s.intake.point % 512 ≠ 0) : lastBlockDecided s = completeBlock s := if_neg h
  have hnumber (h : s.intake.point % 512 ≠ 0) : blockNumberAt s.intake.point = s.intake.point / 512 := by
    have hdiv : (s.intake.point - 1) / 512 = s.intake.point / 512 := by omega
    exact hdiv
  have hfill (h : s.intake.point % 512 ≠ 0) : blockFillAt s.intake.point = s.intake.point % 512 := by
    have hmod : (s.intake.point - 1) % 512 + 1 = s.intake.point % 512 := by omega
    exact hmod
  refine ⟨t, by rw [ht, exec_free hresets hr, hsettled], ?_, hphase, ?_, hlines, hmarkers, hgaps.overrun, hgaps.active, hgaps.newest,
    hqueue, fun hopen => ?_, fun hindex hcount => ?_, fun g before hempty hfour hlive hopen => ?_, ?_, ?_, fun hstop => ?_, fun hstop => ?_, ?_⟩
  · rw [ht, report_intake, settleFrom_intake, hsame .intake (by simp), endRun_intake]
  · refine station_eq_of ?_ ?_ ?_ ?_ ?_ ?_ <;> rw [ht, report_station] <;> simp [hystation]
  · exact runEnd_settled_endsAt (sameBut_mono hsame (by simp)) ht hopen
  · have habsorbed := endRun_absorbed hindex hcount
    rw [← hycounters] at habsorbed
    have hdone := (queueDone_settling y.counters.absorbed).settleFrom s y
      ⟨by rw [hsame .table (by simp), endRun_queue], rfl⟩
    rw [ht, report_counters, hdone.2, habsorbed]
  · have hfull : settleFrom s y = y := settleFrom_full _ _ (by rw [hsame .spine (by simp), endRun_spine]; exact hfour)
    rw [ht, hfull, report_table, hsame .table (by simp), endRun_live hempty hlive hopen]
  · rw [hstaging]
    by_cases hlast : s.intake.point % 512 = 0
    · rw [if_neg (fun h => h.1 hlast), hwhole hlast]
    · rw [hpartial hlast]
      by_cases hd : decideBlock s = .stage
      · rw [if_pos ⟨hlast, hd⟩, (completeBlock_stage s hd).1, hnumber hlast, hfill hlast]
      · rw [if_neg (fun h => hd h.2), (completeBlock_drop s hd).1]
  · rw [hgapSamples]
    by_cases hlast : s.intake.point % 512 = 0
    · rw [if_neg (fun h => h.1 hlast), hwhole hlast]
    · rw [hpartial hlast]
      by_cases hd : decideBlock s = .stage
      · rw [if_neg (fun h => h.2 hd), (completeBlock_stage s hd).2.2]
      · rw [if_pos ⟨hlast, hd⟩, (completeBlock_drop s hd).2.2, hfill hlast]
        rfl
  · have hport : y.port = { phase := .reply, reply := [0x80] } := by
      rcases heffect with ⟨rfl, -⟩ | ⟨-, rfl⟩
      · exact nomatch hstop
      · exact answer_port _ _
    rw [ht, report_port, settleFrom_port, hport]
  · have hport : y.port = s.port := by
      rcases heffect with ⟨-, rfl⟩ | ⟨rfl, -⟩
      · exact endRun_port s
      · exact nomatch hstop
    rw [ht, report_port, settleFrom_port, hport]
  · rw [ht, ← hsettled]
    exact report_drained_sameBut (sameBut_mono (effect_sameBut c s) hreach) (by simp [drainParts])

/-! ### A held STOP and index exhaustion (R15, R16) -/

theorem conditions_exhausted (s : State) : s.conditions.getLsbD 3 = s.intake.exhausted := by
  simp [State.conditions, -BitVec.getLsbD_eq_getElem, mask_getLsbD, Flag.index]

/-- What the decision of a block leaves in the Staging Buffer, the counts and the Gap List (R12, R13, R41 to R44). -/
structure BlockLedger (d : Decision) (b : Block) (s t : State) : Prop where
  staging : t.memory.staging = if d = .stage then s.memory.staging ++ [b] else s.memory.staging
  staged : t.counters.staged =
    if d = .stage then min Config.counter32 (s.counters.staged + 1) else s.counters.staged
  gapSamples : t.counters.gapSamples =
    if d = .stage then s.counters.gapSamples else min Config.counter48 (s.counters.gapSamples + b.fill)
  gaps : t.gaps = s.gaps.decided d (512 * b.number) b.fill

theorem completeBlock_ledger (s : State) :
    BlockLedger (decideBlock s)
      { number := blockNumberAt s.intake.point, fill := blockFillAt s.intake.point, samples := s.intake.filling } s
      (completeBlock s) := by
  by_cases hd : decideBlock s = .stage
  · obtain ⟨hstaging, hstaged, hsamples⟩ := completeBlock_stage s hd
    exact ⟨by rw [hstaging, if_pos hd], by rw [hstaged, if_pos hd]; rfl, by rw [hsamples, if_pos hd], completeBlock_gaps s⟩
  · obtain ⟨hstaging, hstaged, hsamples⟩ := completeBlock_drop s hd
    exact ⟨by rw [hstaging, if_neg hd], by rw [hstaged, if_neg hd], by rw [hsamples, if_neg hd]; rfl, completeBlock_gaps s⟩

/-- A consideration decides nothing about a block. -/
theorem decideBlock_considerHead (s : State) : decideBlock (considerHead s) = decideBlock s := by
  have hcapacity : (considerHead s).capacity = s.capacity := by
    rw [State.capacity, considerHead_station]
    rfl
  have hheld : (considerHead s).held = s.held := by
    rw [State.held, considerHead_memory]
    rfl
  simp only [decideBlock, considerHead_gaps, considerHead_intake, considerHead_memory, hcapacity, hheld]

/-- The sample set that a held STOP waits for ends the run with block 0 of one sample (R15). -/
theorem takeSampleSet_held {lanes : Vector Sample 8} {s : State} (hpoint : s.intake.point = 0) (hstop : s.intake.stopHeld = true) :
    takeSampleSet lanes s = endRun (considerHead (writeSample lanes s)) := by
  have hadvance : advanceIntake lanes s = considerHead (writeSample lanes s) := by
    simp only [advanceIntake, writeSample_point, hpoint]
    rfl
  have hlimit : (considerHead (writeSample lanes s)).intake.point ≠ 2 ^ 48 := by
    rw [considerHead_intake, writeSample_point, hpoint]
    decide
  have hheld : (considerHead (writeSample lanes s)).intake.stopHeld = true := by
    rw [considerHead_intake, writeSample_intake]
    exact hstop
  simp only [takeSampleSet, hadvance]
  rw [if_neg hlimit, if_pos hheld]

/-- The sample set at the last index completes its block and ends the run (R16). -/
theorem takeSampleSet_exhausts {lanes : Vector Sample 8} {s : State} (hpoint : s.intake.point + 1 = 2 ^ 48) :
    takeSampleSet lanes s =
      { endRun (considerHead (completeBlock (writeSample lanes s))) with
        intake :=
          { (endRun (considerHead (completeBlock (writeSample lanes s)))).intake with exhausted := true } } := by
  have hadvance : advanceIntake lanes s = considerHead (completeBlock (writeSample lanes s)) := by
    simp only [advanceIntake, writeSample_point, hpoint]
    rfl
  have hlimit : (considerHead (completeBlock (writeSample lanes s))).intake.point = 2 ^ 48 := by
    rw [considerHead_intake, completeBlock_intake, writeSample_intake]
    exact hpoint
  simp only [takeSampleSet, hadvance]
  rw [if_pos hlimit]

/-- Either end of the run at a sample set: `x` is the state the run ends from, with the block of the last sample decided. -/
theorem takeSampleSet_ends {lanes : Vector Sample 8} {s : State} {exhausted : Bool}
    (h : exhausted = true ∧ s.intake.point + 1 = 2 ^ 48 ∨
      exhausted = false ∧ s.intake.point = 0 ∧ s.intake.stopHeld = true) :
    ∃ x, takeSampleSet lanes s =
        { endRun x with intake := { (endRun x).intake with exhausted := exhausted || s.intake.exhausted } } ∧
      x.intake.point = s.intake.point + 1 ∧ x.intake.exhausted = s.intake.exhausted ∧
      x.intake.laneOut = s.intake.laneOut ∧ x.spine = s.spine ∧ (s.station.phase = .run → s.endsAt none → x.endsAt none) ∧
      BlockLedger (decideBlock (writeSample lanes s))
        { number := s.intake.point / 512, fill := s.intake.point % 512 + 1, samples := (writeSample lanes s).intake.filling } s
        (lastBlockDecided x) := by
  have hnumber : blockNumberAt (writeSample lanes s).intake.point = s.intake.point / 512 := by
    rw [writeSample_point]
    rfl
  have hfill : blockFillAt (writeSample lanes s).intake.point = s.intake.point % 512 + 1 := by
    rw [writeSample_point]
    rfl
  have hends {z : State} (hrun : s.station.phase = .run) (hopen : s.endsAt none) (hstation : z.station = s.station)
      (htable : z.table = s.table) : (considerHead z).endsAt none := by
    refine endsAt_considerRequests ?_ ?_
    · rw [State.newestEnd, hstation, if_pos hrun]
    · rw [State.endsAt, htable]
      exact hopen
  rcases h with ⟨rfl, hpoint⟩ | ⟨rfl, hpoint, hstop⟩
  · refine ⟨considerHead (completeBlock (writeSample lanes s)), takeSampleSet_exhausts hpoint, ?_, ?_, ?_, ?_, fun hrun hopen => ?_, ?_⟩
    · rw [considerHead_intake, completeBlock_intake, writeSample_intake]
    · rw [considerHead_intake, completeBlock_intake, writeSample_intake]
    · rw [considerHead_intake, completeBlock_intake, writeSample_intake]
    · rw [considerHead_spine, completeBlock_spine]
      rfl
    · exact hends hrun hopen (by rw [completeBlock_station]; rfl) (by rw [completeBlock_table]; rfl)
    · have hwhole : lastBlockDecided (considerHead (completeBlock (writeSample lanes s))) =
          considerHead (completeBlock (writeSample lanes s)) := by
        refine if_pos ?_
        rw [considerHead_intake, completeBlock_intake, writeSample_intake]
        simp only
        omega
      obtain ⟨hstaging, hstaged, hsamples, hgaps⟩ := completeBlock_ledger (writeSample lanes s)
      rw [hnumber, hfill] at hgaps hstaging
      rw [hfill] at hsamples
      rw [hwhole]
      exact ⟨by rw [considerHead_memory]; exact hstaging, by rw [considerHead_counters_staged]; exact hstaged,
        by rw [considerHead_counters_gapSamples]; exact hsamples, by rw [considerHead_gaps]; exact hgaps⟩
  · refine ⟨considerHead (writeSample lanes s), ?_, ?_, ?_, ?_, ?_, fun hrun hopen => ?_, ?_⟩
    · rw [takeSampleSet_held hpoint hstop]
      have hexhausted : (endRun (considerHead (writeSample lanes s))).intake.exhausted = s.intake.exhausted := by
        rw [endRun_intake, considerHead_intake, writeSample_intake]
      rw [Bool.false_or, ← hexhausted]
    · rw [considerHead_intake, writeSample_intake]
    · rw [considerHead_intake, writeSample_intake]
    · rw [considerHead_intake, writeSample_intake]
    · rw [considerHead_spine]
      rfl
    · exact hends hrun hopen rfl rfl
    · have hpart : lastBlockDecided (considerHead (writeSample lanes s)) = completeBlock (considerHead (writeSample lanes s)) := by
        refine if_neg ?_
        rw [considerHead_intake, writeSample_intake]
        simp only
        omega
      obtain ⟨hstaging, hstaged, hsamples, hgaps⟩ := completeBlock_ledger (considerHead (writeSample lanes s))
      rw [decideBlock_considerHead, considerHead_intake, hnumber, hfill] at hgaps hstaging
      rw [decideBlock_considerHead, considerHead_intake, hfill] at hsamples
      rw [decideBlock_considerHead] at hstaged
      rw [considerHead_memory] at hstaging
      rw [considerHead_counters_staged] at hstaged
      rw [considerHead_counters_gapSamples] at hsamples
      rw [considerHead_gaps] at hgaps
      rw [hpart]
      exact ⟨hstaging, hstaged, hsamples, hgaps⟩

/-- Settles O20. -/
theorem lastSampleEndsTheRun : Obligations.LastSampleEndsTheRun := by
  intro lanes s hr hf hphase exhausted hcase
  obtain ⟨x, htaken, hpoint, hxexhausted, hlaneOut, hspine, hopen, hledger⟩ := takeSampleSet_ends (lanes := lanes) hcase
  obtain ⟨y, hy⟩ : ∃ y : State, y =
    { endRun x with intake := { (endRun x).intake with exhausted := exhausted || s.intake.exhausted } } := ⟨_, rfl⟩
  have heffect : effect (.sampleSetTaken lanes) s = y := by
    rw [hy, ← htaken]
    exact if_pos hphase
  have hsettled : settled (.sampleSetTaken lanes) s = settleFrom s y := by
    rw [← heffect]
    rfl
  have hsame : sameBut [.intake, .port] (endRun x) y := by
    rw [hy]
    intro p hp; cases p <;> simp [Part.same] at hp ⊢
  obtain ⟨t, ht⟩ : ∃ t, t = report s (settleFrom s y) := ⟨_, rfl⟩
  have hfollow : t.flagsFollow := by
    rw [ht, ← hsettled]
    exact report_settled_flagsFollow rfl hr hf
  obtain ⟨hstation, hlines, -, hgaps, hqueue⟩ := runEnd_settled hsame ht
  have hintake : t.intake =
      { s.intake with
        phase := .ended
        point := s.intake.point + 1
        ending := some (s.intake.point + 1)
        filling := []
        laneMark := false
        stopHeld := false
        exhausted := exhausted || s.intake.exhausted } := by
    rw [ht, report_intake, settleFrom_intake, hy, endRun_intake]
    simp only [hpoint, hlaneOut]
  refine ⟨t, by rw [ht, exec_free rfl hr, hsettled], hintake, fun hex => ?_, hstation, fun line => by rw [hlines],
    fun d number fill hd hblock => ?_, hgaps.overrun, hgaps.active, hgaps.newest, hqueue, fun hrun hends => ?_, ?_⟩
  · refine flag_of_condition hfollow ?_
    rw [conditions_exhausted, hintake, hex]
    rfl
  · have hplace : s.intake.point / 512 = number ∧ s.intake.point % 512 + 1 = fill := by
      rcases hcase with ⟨rfl, hlast⟩ | ⟨rfl, hzero, -⟩
      · rw [if_pos rfl] at hblock
        omega
      · rw [if_neg Bool.false_ne_true] at hblock
        omega
    rw [hplace.1, hplace.2, ← hd] at hledger
    refine ⟨?_, ?_, ?_, fun hfour => ?_⟩
    · rw [ht, report_memory, settleFrom_memory_staging, hsame .memory (by simp), endRun_memory, hledger.staging]
    · rw [ht, report_counters, settleFrom_counters_staged, hsame .counters (by simp), endRun_counters_staged, hledger.staged]
    · rw [ht, report_counters, settleFrom_counters_gapSamples, hsame .counters (by simp), endRun_counters_gapSamples,
        hledger.gapSamples]
    · have hfull : settleFrom s y = y := by
        refine settleFrom_full _ _ ?_
        rw [hsame .spine (by simp), endRun_spine, hspine]
        exact hfour
      rw [ht, hfull, report_gaps, hsame .gaps (by simp), endRun_gaps, hledger.gaps]
  · have hend := runEnd_settled_endsAt hsame ht (hopen hrun hends)
    rwa [hpoint, Nat.add_sub_cancel] at hend
  · rw [ht, ← hsettled]
    exact report_drained_sameBut
      (sameBut_mono (effect_sameBut (.sampleSetTaken lanes) s) (by simp [reach, drainParts])) (by simp)

end Sys2Proof.Machine
end
